-- ==== Sys2Proof/Word.lean ====
section
/-! DEFINITION. The fixed-width words of the block: those whose width the spec's layouts fix. The four
widths that R9 makes parameters are values of `Config.Params`, and what they measure is a number
(log 9). -/

namespace Sys2Proof

/-- A byte (R10): KBC bytes, status samples, mouse and keyboard registers, and the byte operands of
formats B and G (R99, R101). -/
abbrev Byte := BitVec 8

/-- The 32 bits that R96 lays out as an operation and R109 as an output record. -/
abbrev Word := BitVec 32

/-- A 9-bit two's-complement field: `dx` and `dy` of format P (R100), and `{sign, byte}` of R94. -/
abbrev DeltaField := BitVec 9

/-- A KBC port number as the block drives it (R70). R9 gives the two numbers and no width;
16 bits is the width of the PC's I/O space (log 6). -/
abbrev PortAddr := BitVec 16

end Sys2Proof
end

