-- ==== Sys2Proof/Config.lean ====
section
/-! DEFINITION. What an implementation fixes (R9's parameters) and the one free value: what a port
read answers when no answer of the environment is listed in the state. -/

namespace Sys2Proof.Config

/-- The two ports of the KBC that the block reads (R70). -/
inductive Port
  | status
  | data
deriving DecidableEq, Repr

/-- The implementation parameters of R9, in its order. A bit parameter is the number of a bit, bit 0
the least significant (R10). -/
structure Params where
  /-- `POLL_BUDGET`: the status samples one drain takes at most. -/
  pollBudget : Nat
  /-- `POLL_INTERVAL` in milliseconds. Timing only: nothing reads it (R139, log 13). -/
  pollIntervalMs : Nat
  /-- `EXT_PREFIX`: the extended-scancode prefix. -/
  extPrefix : Byte
  /-- `BREAK_BIT`: the bit of the final scancode byte that marks a break. -/
  breakBit : Nat
  /-- `SYNC_BIT`: the always-1 bit of mouse byte 0. -/
  syncBit : Nat
  /-- `XSIGN_BIT`: the X sign bit of mouse byte 0. -/
  xsignBit : Nat
  /-- `YSIGN_BIT`: the Y sign bit of mouse byte 0. -/
  ysignBit : Nat
  /-- `LB_BIT`: the left button bit of mouse byte 0. -/
  lbBit : Nat
  /-- `RB_BIT`: the right button bit of mouse byte 0. -/
  rbBit : Nat
  /-- `MB_BIT`: the middle button bit of mouse byte 0. -/
  mbBit : Nat
  /-- `XOV_BIT`: the X overflow bit of mouse byte 0. -/
  xovBit : Nat
  /-- `YOV_BIT`: the Y overflow bit of mouse byte 0. -/
  yovBit : Nat
  /-- `ST_OBF`: output-buffer-full in the status byte. -/
  stObf : Nat
  /-- `ST_IBF`: input-buffer-full. The block does not read it (R90). -/
  stIbf : Nat
  /-- `ST_AUX`: the byte came from the auxiliary device. -/
  stAux : Nat
  /-- `ST_TIMEOUT`: timeout error. -/
  stTimeout : Nat
  /-- `ST_PARITY`: parity error. -/
  stParity : Nat
  /-- `STATUS_PORT`: the number of the status/command port. -/
  statusPort : PortAddr
  /-- `DATA_PORT`: the number of the data port. -/
  dataPort : PortAddr
  /-- `IRQ_BIT_KBD`: the keyboard's bit of the fired-source mask. -/
  irqBitKbd : Nat
  /-- `IRQ_BIT_MOUSE`: the mouse's bit of the fired-source mask. -/
  irqBitMouse : Nat
  /-- `DELTA_WIDTH`: the width of `MOUSE_DX` and `MOUSE_DY`, signed (R41). -/
  deltaWidth : Nat
  /-- `SUM_WIDTH`: the width of `X_SUM` and `Y_SUM`, signed (R43, R230). -/
  sumWidth : Nat
  /-- `PARAM_WIDTH`: the width of `GEST_XLEN` and `GEST_TOL`, unsigned (R44). -/
  paramWidth : Nat
  /-- `OP_WIDTH`: how many bits the command port takes as one operation word (R96). -/
  opWidth : Nat
deriving DecidableEq, Repr

/-- The byte a read of a port answers when the state lists no answer for that port. It has no body,
so nothing can be proved of its value: R74, "Any byte may be returned by any status sample and by
any data read, independently of earlier reads". It is applied to the port's number and to how many
reads were made before, so every read has an answer of its own. DESIGN CHOICE, safe (log 3). -/
opaque portDraw : PortAddr → Nat → Byte

end Sys2Proof.Config
end

