-- ==== Sys2Proof/Syntax.lean ====
section
/-! DEFINITION. The operations of the command port (R102), one constructor for each row of
spec/opcode_table.json, and the pseudo-instructions of the assembler (R108). -/

namespace Sys2Proof

/-- The channel operand of format C (R98): bit value 0 is the keyboard, 1 is the mouse. -/
inductive Channel
  | kbd
  | mouse
deriving DecidableEq, Repr

/-- The operations of R102. Byte operands are bit vectors; `dx` and `dy` are the mathematical
integers of R210 and R229, whose range -256..255 (R103) `Instr.wellFormed` checks (log 16). -/
inductive Instr
  /-- NOP, format Z (R260). -/
  | nop
  /-- SUB ch, format C (R262). -/
  | sub (ch : Channel)
  /-- UNSUB ch, format C (R263). -/
  | unsub (ch : Channel)
  /-- IRQ m, format B: `m` is the fired-source bitmask (R266). -/
  | irq (m : Byte)
  /-- KBD_INT, format Z (R140). -/
  | kbdInt
  /-- KBD_REASM b, format B (R144). -/
  | kbdReasm (b : Byte)
  /-- MOUSE_INT, format Z (R175). -/
  | mouseInt
  /-- MOUSE_REASM b, format B (R180). -/
  | mouseReasm (b : Byte)
  /-- GEST_STEP lb rb mb dx dy, format P (R240). -/
  | gestStep (lb rb mb : Bool) (dx dy : Int)
  /-- GEST_RESET, format Z (R243). -/
  | gestReset
  /-- GEST_CFG x_len tol, format G (R245). -/
  | gestCfg (xLen tol : Byte)
deriving DecidableEq, Repr

/-- The pseudo-instructions of R108. -/
inductive Pseudo
  | irqKbd
  | irqMouse
  | irqBoth
  | subAll
  | unsubAll
  | kbdFeed2 (b : Byte)
  | mouseFeed3 (b0 b1 b2 : Byte)
  | gestInit (xLen tol : Byte)
deriving DecidableEq, Repr

end Sys2Proof
end

