-- ==== Sys2Proof/WellFormed.lean ====
section
/-! DEFINITION. The checks on data: an operation's operands are in the ranges of R103, and the
parameters meet the constraints of R9. -/

namespace Sys2Proof

/-- R103 and R11: `dx` and `dy` are `sext_9` values, so they lie in -256..255. -/
def inDeltaRange (d : Int) : Bool := decide (-256 ≤ d) && decide (d ≤ 255)

/-- Every operand is in the range of R103. The other operands' ranges are their types'. -/
def Instr.wellFormed : Instr → Bool
  | .nop => true
  | .sub _ => true
  | .unsub _ => true
  | .irq _ => true
  | .kbdInt => true
  | .kbdReasm _ => true
  | .mouseInt => true
  | .mouseReasm _ => true
  | .gestStep _ _ _ dx dy => inDeltaRange dx && inDeltaRange dy
  | .gestReset => true
  | .gestCfg _ _ => true

/-- Bit numbers of one byte: each in 0..7, and no two the same (R9's constraints). -/
def distinctByteBits (bits : List Nat) : Bool :=
  bits.all (fun n => decide (n < 8)) && decide bits.Nodup

/-- R9: "`POLL_BUDGET` ≥ 1. The bit parameters of one byte are distinct. `IRQ_BIT_KBD` ≠
`IRQ_BIT_MOUSE`, and both are in 0..7." R9 states no bound for a width; that each has a bit at all is
the model's (log 9). -/
def Config.Params.wellFormed (p : Config.Params) : Bool :=
  decide (1 ≤ p.pollBudget)
    && decide (p.breakBit < 8)
    && distinctByteBits [p.lbBit, p.rbBit, p.mbBit, p.syncBit, p.xsignBit, p.ysignBit,
        p.xovBit, p.yovBit]
    && distinctByteBits [p.stObf, p.stIbf, p.stAux, p.stTimeout, p.stParity]
    && distinctByteBits [p.irqBitKbd, p.irqBitMouse]
    && decide (1 ≤ p.deltaWidth) && decide (1 ≤ p.sumWidth)
    && decide (1 ≤ p.paramWidth) && decide (1 ≤ p.opWidth)

end Sys2Proof
end

