-- ==== Sys2Proof/Decode.lean ====
section
/-! DEFINITION. The decoder of R106 over the opcode map of R102, written as rows of match and mask,
and the encoder, written from the formats R97 to R101. -/

namespace Sys2Proof

/-- The names of the rows of R102. -/
inductive Op
  | nop | sub | unsub | irq | kbdInt | kbdReasm | mouseInt | mouseReasm
  | gestStep | gestReset | gestCfg
deriving DecidableEq, Repr

/-- One row of R102: a word `w` selects it when `(w AND mask) = pattern`. -/
structure Row where
  op : Op
  pattern : Word
  mask : Word
deriving DecidableEq, Repr

/-- The two ways a word is illegal (R104). -/
inductive IllegalReason
  /-- The opcode is not in R102's table. -/
  | unassignedOpcode
  /-- A reserved operand bit of the opcode's format is 1. -/
  | reservedBit
deriving DecidableEq, Repr

/-- The match and mask columns of R102 (and of spec/opcode_table.json), in the table's order. -/
def rows : List Row :=
  [ ⟨.nop,        0x00000000#32, 0xFFFFFFFF#32⟩,
    ⟨.sub,        0x01000000#32, 0xFFFFFFFE#32⟩,
    ⟨.unsub,      0x02000000#32, 0xFFFFFFFE#32⟩,
    ⟨.irq,        0x03000000#32, 0xFFFFFF00#32⟩,
    ⟨.kbdInt,     0x10000000#32, 0xFFFFFFFF#32⟩,
    ⟨.kbdReasm,   0x11000000#32, 0xFFFFFF00#32⟩,
    ⟨.mouseInt,   0x20000000#32, 0xFFFFFFFF#32⟩,
    ⟨.mouseReasm, 0x21000000#32, 0xFFFFFF00#32⟩,
    ⟨.gestStep,   0x30000000#32, 0xFF000038#32⟩,
    ⟨.gestReset,  0x31000000#32, 0xFFFFFFFF#32⟩,
    ⟨.gestCfg,    0x32000000#32, 0xFFFF0000#32⟩ ]

/-- R102: a word selects a row when `(w AND mask) = match`. -/
def Row.selects (r : Row) (w : Word) : Bool := w &&& r.mask == r.pattern

/-- R96: the opcode of a word is its bits 31..24. -/
def opcodeOf (w : Word) : Byte := w.extractLsb' 24 8

/-- The channel of format C: 0 is the keyboard, 1 is the mouse (R98). -/
def channelOf (bit : Bool) : Channel := if bit then .mouse else .kbd

/-- Format B's operand, `zext_8(w[7:0])` (R99). -/
def byteOperand (w : Word) : Byte := w.extractLsb' 0 8

/-- Format P's `dx = sext_9(w[14:6])` (R100). -/
def dxOperand (w : Word) : Int := (w.extractLsb' 6 9 : DeltaField).toInt

/-- Format P's `dy = sext_9(w[23:15])` (R100). -/
def dyOperand (w : Word) : Int := (w.extractLsb' 15 9 : DeltaField).toInt

/-- The operands of each row, pulled out by its format (R97 to R101, R103). -/
def operandsOf (op : Op) (w : Word) : Instr :=
  match op with
  | .nop => .nop
  | .sub => .sub (channelOf (w.getLsbD 0))
  | .unsub => .unsub (channelOf (w.getLsbD 0))
  | .irq => .irq (byteOperand w)
  | .kbdInt => .kbdInt
  | .kbdReasm => .kbdReasm (byteOperand w)
  | .mouseInt => .mouseInt
  | .mouseReasm => .mouseReasm (byteOperand w)
  | .gestStep =>
    .gestStep (w.getLsbD 0) (w.getLsbD 1) (w.getLsbD 2) (dxOperand w) (dyOperand w)
  | .gestReset => .gestReset
  | .gestCfg => .gestCfg (w.extractLsb' 0 8) (w.extractLsb' 8 8)

/-- Whether a row of R102 has the word's opcode (R104's first case is that none has). -/
def opcodeAssigned (w : Word) : Bool :=
  rows.any fun r => opcodeOf r.pattern == opcodeOf w

/-- R106's decoder: the one row the word selects, with its operands; otherwise IllegalOp, with the
case of R104 that makes the word illegal. -/
def decode (w : Word) : Except IllegalReason Instr :=
  match rows.find? (fun r => r.selects w) with
  | some r => .ok (operandsOf r.op w)
  | none => .error (if opcodeAssigned w then .reservedBit else .unassignedOpcode)

/-- R106's decoder on what the host drives on the command port. The port takes the `OP_WIDTH` low bits
as one word (R9, R96), whose bits 31..0 the formats lay out. A bit of a wider word above bit 31 is in
no format and is taken as reserved; a bit that a narrower word lacks is 0. At the default, 32, every
word is the 32 bits of R96 and neither case arises (log 9). -/
def decodeCommand (p : Config.Params) (v : Nat) : Except IllegalReason Instr :=
  if v % 2 ^ p.opWidth < 2 ^ 32 then decode (BitVec.ofNat 32 (v % 2 ^ p.opWidth))
  else .error .reservedBit

/-! ## The encoder, from the formats -/

/-- Format Z (R97): the opcode and 24 zero bits. -/
def formatZ (opcode : Byte) : Word := opcode.setWidth 32 <<< 24

/-- Format C (R98): the channel in bit 0. -/
def formatC (opcode : Byte) (ch : Channel) : Word :=
  formatZ opcode ||| (match ch with | .kbd => 0#32 | .mouse => 1#32)

/-- Format B (R99): the byte in bits 7..0. -/
def formatB (opcode b : Byte) : Word := formatZ opcode ||| b.setWidth 32

/-- Format P (R100): buttons in bits 2..0, `dx` in bits 14..6, `dy` in bits 23..15. -/
def formatP (opcode : Byte) (lb rb mb : Bool) (dx dy : DeltaField) : Word :=
  formatZ opcode ||| dy.setWidth 32 <<< 15 ||| dx.setWidth 32 <<< 6
    ||| (BitVec.ofBool mb).setWidth 32 <<< 2 ||| (BitVec.ofBool rb).setWidth 32 <<< 1
    ||| (BitVec.ofBool lb).setWidth 32

/-- Format G (R101): `x_len` in bits 7..0, `tol` in bits 15..8. -/
def formatG (opcode xLen tol : Byte) : Word :=
  formatZ opcode ||| tol.setWidth 32 <<< 8 ||| xLen.setWidth 32

/-- The word of an operation, from its opcode (R102) and its format. -/
def encode : Instr → Word
  | .nop => formatZ 0x00#8
  | .sub ch => formatC 0x01#8 ch
  | .unsub ch => formatC 0x02#8 ch
  | .irq m => formatB 0x03#8 m
  | .kbdInt => formatZ 0x10#8
  | .kbdReasm b => formatB 0x11#8 b
  | .mouseInt => formatZ 0x20#8
  | .mouseReasm b => formatB 0x21#8 b
  | .gestStep lb rb mb dx dy => formatP 0x30#8 lb rb mb (BitVec.ofInt 9 dx) (BitVec.ofInt 9 dy)
  | .gestReset => formatZ 0x31#8
  | .gestCfg xLen tol => formatG 0x32#8 xLen tol

/-! ## The opcode table's numbering -/

/-- The word whose bits are `w`, numbered as spec/opcode_table.json numbers them: an operation word
is taken whole (R76, R77), so no byte order enters; bits from `nbits` up are 0. -/
def tableWord (nbits w : Nat) : Word := BitVec.ofNat 32 (w % 2 ^ nbits)

/-- The instruction the decoder reads from the table's word `w` of `nbits` bits. -/
def decodeTableWord (nbits w : Nat) : Option Instr :=
  match decode (tableWord nbits w) with
  | .ok i => some i
  | .error _ => none

end Sys2Proof
end

