-- ==== Sys2Proof/Machine/Params.lean ====
section
/-! DEFINITION. The default configuration: the default column of R9. The operations take a
configuration as an argument and a meaning gives them its state's; only `State.reset` names these
values. -/

namespace Sys2Proof.Machine

/-- The defaults of R9. The status bits, the port numbers and the button and overflow bits are
"from general knowledge, not in source" (93 GK1 to GK3; log 5 to 8). -/
def params : Config.Params where
  pollBudget := 10
  pollIntervalMs := 20
  extPrefix := 0xE0#8
  breakBit := 7
  syncBit := 3
  xsignBit := 4
  ysignBit := 5
  lbBit := 0
  rbBit := 1
  mbBit := 2
  xovBit := 6
  yovBit := 7
  stObf := 0
  stIbf := 1
  stAux := 5
  stTimeout := 6
  stParity := 7
  statusPort := 0x64#16
  dataPort := 0x60#16
  irqBitKbd := 0
  irqBitMouse := 1
  deltaWidth := 9
  sumWidth := 32
  paramWidth := 8
  opWidth := 32

end Sys2Proof.Machine
end

