-- ==== Sys2Proof/Machine/State.lean ====
section
/-! DEFINITION. The state of the block: every register of R30, the output stream, the parameters it was
built with, and the environment's side of the two ports and of the command port. -/

namespace Sys2Proof.Machine

/-- The legal values 0, 1, 2 of `MOUSE_SLOT` (R30, R37). The encoding 3 "is never produced by any
rule" and has no constructor (log 11). -/
inductive Slot
  | slot0
  | slot1
  | slot2
deriving DecidableEq, Repr

/-- The gesture states, "an enumerated variant {IDLE, STROKE_1, APEX, STROKE_2, COMPLETE}" (R42). The
encodings 5, 6, 7 have no constructor (log 11). -/
inductive GestState
  | idle
  | stroke1
  | apex
  | stroke2
  | complete
deriving DecidableEq, Repr

/-- What reaches the block from the host: what it drives on the command port, of which the block takes
the `OP_WIDTH` low bits as an operation word (R31, R96), or a reset (R320, R322), which lands between
two operations (log 2). -/
inductive Input
  | word (v : Nat)
  | reset
deriving DecidableEq, Repr

/-- The whole state. The first seventeen fields are R30's registers, in its order. A register whose
width R9 makes a parameter is the number it holds, and every write brings that number into the
register's width (log 9). -/
structure State where
  /-- `SUB`: bit 0 is `SUB.KBD`, bit 1 is `SUB.MOUSE` (R33). -/
  sub : BitVec 2
  /-- `KBD_PENDING` (R34). -/
  kbdPending : Bool
  /-- `KBD_PREFIX` (R35). -/
  kbdPrefix : Byte
  /-- `KBD_LAST` (R36). -/
  kbdLast : Byte
  /-- `MOUSE_SLOT` (R37). -/
  mouseSlot : Slot
  /-- `MOUSE_B0` (R38). -/
  mouseB0 : Byte
  /-- `MOUSE_B1` (R39). -/
  mouseB1 : Byte
  /-- `MOUSE_B2` (R39). -/
  mouseB2 : Byte
  /-- `MOUSE_XS` (R40). -/
  mouseXS : Bool
  /-- `MOUSE_YS` (R40). -/
  mouseYS : Bool
  /-- `MOUSE_DX`: `DELTA_WIDTH` bits, two's complement (R41). -/
  mouseDX : Int
  /-- `MOUSE_DY`: `DELTA_WIDTH` bits, two's complement (R41). -/
  mouseDY : Int
  /-- `GEST_STATE` (R42). -/
  gestState : GestState
  /-- `X_SUM`: `SUM_WIDTH` bits, two's complement (R43). -/
  xSum : Int
  /-- `Y_SUM`: `SUM_WIDTH` bits, two's complement (R43). -/
  ySum : Int
  /-- `GEST_XLEN`: `PARAM_WIDTH` bits, unsigned (R44). -/
  gestXLen : Nat
  /-- `GEST_TOL`: `PARAM_WIDTH` bits, unsigned (R44). -/
  gestTol : Nat
  /-- The output stream: the records emitted so far, first to leave first (R14, R109). -/
  out : List Word
  /-- The MODEL's own: what the host has presented and the block has not taken, first to arrive
  first (R31, R300; log 1). -/
  inputs : List Input
  /-- The MODEL's own: the environment's answers to the next reads of the status port (R74; log 3). -/
  statusIn : List Byte
  /-- The MODEL's own: the environment's answers to the next reads of the data port (R74; log 3). -/
  dataIn : List Byte
  /-- The MODEL's own: the port numbers read so far, in order (R81; log 4). -/
  portReads : List PortAddr
  /-- The parameters of R9 that the block was built with: its configuration and no register. No
  operation and no reset writes it (log 8). -/
  config : Config.Params
deriving DecidableEq, Repr

/-- The block has no fault: "No error is fatal, and none changes how later operations are executed"
and it has no halted state (R282), so this closed type has no constructor and no one raises it. Safe:
every operation of the model goes on as R282 says (log 12). -/
inductive Fault : Type
deriving DecidableEq, Repr

/-- Why the model has no meaning for an instruction. -/
inductive Refusal
  /-- Raised by an arm of `exec` for an instruction with no meaning yet. No arm raises it: all eleven
  operations have their meaning. Safe: a refusal proves nothing of the block. -/
  | notModelled (mnemonic : String)
deriving DecidableEq, Repr

/-- The block right after reset (R320, with the reset column of R30). The environment's lists are
empty: nothing has been presented and nothing has been read (log 1, 3, 4), and the
configuration is the default of R9 (log 8). -/
def State.reset : State where
  sub := 0b00#2
  kbdPending := false
  kbdPrefix := 0x00#8
  kbdLast := 0x00#8
  mouseSlot := .slot0
  mouseB0 := 0x00#8
  mouseB1 := 0x00#8
  mouseB2 := 0x00#8
  mouseXS := false
  mouseYS := false
  mouseDX := 0
  mouseDY := 0
  gestState := .idle
  xSum := 0
  ySum := 0
  gestXLen := 0
  gestTol := 0
  out := []
  inputs := []
  statusIn := []
  dataIn := []
  portReads := []
  config := params

end Sys2Proof.Machine
end

