-- ==== Sys2Proof/Machine/Operands.lean ====
section
/-! DEFINITION. The values the procedures compute from bytes and registers: the numbers a register of
a given width holds, delta assembly, the packet's decoded fields, the buttons, and the encodings of
the two small enumerations. -/

namespace Sys2Proof.Machine

/-- The bit of `SUB` that a channel has (R33). -/
def channelBit : Channel → Nat
  | .kbd => 0
  | .mouse => 1

/-- `MOUSE_SLOT`'s value (R37). -/
def Slot.value : Slot → BitVec 2
  | .slot0 => 0#2
  | .slot1 => 1#2
  | .slot2 => 2#2

/-- `GEST_STATE`'s encoding (R42). -/
def GestState.value : GestState → BitVec 3
  | .idle => 0#3
  | .stroke1 => 1#3
  | .apex => 2#3
  | .stroke2 => 3#3
  | .complete => 4#3

/-- `wrap_N` (R11): the integer congruent to `v` modulo `2 ^ n` that `n` bits hold in two's
complement. -/
def wrapTo (n : Nat) (v : Int) : Int := Int.bmod v (2 ^ n)

/-- `sext_9({sign, b})`: bit 8 is the sign, bits 7..0 the byte (R94, R182, R183). -/
def assembleDelta (sign : Bool) (b : Byte) : Int := (BitVec.ofBool sign ++ b : DeltaField).toInt

/-- The assembled delta as a register of `DELTA_WIDTH` bits holds it (R41, R94). A width of 9, the
default, or more holds it exactly; what a narrower one holds is log 9. -/
def deltaOf (p : Config.Params) (sign : Bool) (b : Byte) : Int :=
  wrapTo p.deltaWidth (assembleDelta sign b)

/-- What a threshold register of `PARAM_WIDTH` bits holds when GEST_CFG writes the byte `v` (R44,
R245). A width of 8, the default, or more holds it exactly (log 9). -/
def thresholdOf (p : Config.Params) (v : Byte) : Nat := v.toNat % 2 ^ p.paramWidth

/-- A button triple (left, right, middle) (R17). -/
structure Buttons where
  lb : Bool
  rb : Bool
  mb : Bool
deriving DecidableEq, Repr

/-- `BTN(b0)` (R17). -/
def buttonsOf (p : Config.Params) (b0 : Byte) : Buttons :=
  ⟨b0.getLsbD p.lbBit, b0.getLsbD p.rbBit, b0.getLsbD p.mbBit⟩

/-- The decoded packet of R95, the consumer's view of a PACKET record. -/
structure MousePacket where
  byte0 : Byte
  byte1 : Byte
  byte2 : Byte
  buttons : Buttons
  xov : Bool
  yov : Bool
  deltaX : Int
  deltaY : Int
deriving DecidableEq, Repr

/-- R95: "Every field is a function of the three bytes". The overflow bits take no part in the
deltas (R94, R188). -/
def mousePacketOf (p : Config.Params) (b0 b1 b2 : Byte) : MousePacket where
  byte0 := b0
  byte1 := b1
  byte2 := b2
  buttons := buttonsOf p b0
  xov := b0.getLsbD p.xovBit
  yov := b0.getLsbD p.yovBit
  deltaX := deltaOf p (b0.getLsbD p.xsignBit) b1
  deltaY := deltaOf p (b0.getLsbD p.ysignBit) b2

/-- `is_make = bool(b[BREAK_BIT] = 0)` (R92, R144, R145). -/
def isMake (p : Config.Params) (b : Byte) : Bool := !b.getLsbD p.breakBit

/-- `x_len = zext_8(GEST_XLEN)` (R210). -/
def xLenOf (s : State) : Int := s.gestXLen

/-- `tol = zext_8(GEST_TOL)` (R210). -/
def tolOf (s : State) : Int := s.gestTol

end Sys2Proof.Machine
end

