-- ==== Sys2Proof/Machine/Records.lean ====
section
/-! DEFINITION. The error kinds (R280), the channels (R110) and the four output records with their
words (R109 to R114), and the consumer's reading of a word. -/

namespace Sys2Proof.Machine

/-- The channels of a record (R110). -/
inductive RecordChannel
  /-- 0: the keyboard channel. -/
  | kbd
  /-- 1: the mouse channel, the gesture FSM included. -/
  | mouse
  /-- 2: the command port itself. -/
  | ctrl
deriving DecidableEq, Repr

/-- The error kinds of R280. -/
inductive ErrorKind
  | pollTimeout
  | parityError
  | controllerTimeoutError
  | wrongOriginError
  | syncError
  | illegalOp
  /-- Reserved: "the block never raises it" (R280; log 14). -/
  | commandNack
deriving DecidableEq, Repr

/-- The length of a scancode event, 1 or 2 (R92). -/
inductive EventLength
  | one
  | two
deriving DecidableEq, Repr

/-- An output record, before it is laid out as a word (R109). -/
inductive Record
  /-- KEY: `is_make`, `length`, `bytes[0]`, `bytes[1]` (R111). -/
  | key (isMake : Bool) (len : EventLength) (by0 by1 : Byte)
  /-- PACKET: bytes 0, 1, 2 (R112). -/
  | packet (b0 b1 b2 : Byte)
  /-- GESTURE_DONE (R113). -/
  | gestureDone
  /-- DISCARD: the channel and the error kind (R114). -/
  | discard (ch : RecordChannel) (kind : ErrorKind)
deriving DecidableEq, Repr

/-- R280's codes. -/
def ErrorKind.code : ErrorKind → Byte
  | .pollTimeout => 0x01#8
  | .parityError => 0x02#8
  | .controllerTimeoutError => 0x03#8
  | .wrongOriginError => 0x04#8
  | .syncError => 0x05#8
  | .illegalOp => 0x06#8
  | .commandNack => 0x07#8

/-- R110's channel numbers, as the two bits a DISCARD record gives them (R114). -/
def RecordChannel.number : RecordChannel → BitVec 2
  | .kbd => 0#2
  | .mouse => 1#2
  | .ctrl => 2#2

/-- `length − 1`, the bit a KEY record gives it (R111). -/
def EventLength.lessOne : EventLength → BitVec 1
  | .one => 0#1
  | .two => 1#1

/-- The channel of a record that a keyboard or mouse handler emits (R110). -/
def recordChannel : Channel → RecordChannel
  | .kbd => .kbd
  | .mouse => .mouse

/-- The 32-bit word of a record (R111 to R114). -/
def Record.word : Record → Word
  | .key isMake len by0 by1 =>
    0x81000000#32 ||| len.lessOne.setWidth 32 <<< 17 ||| (BitVec.ofBool isMake).setWidth 32 <<< 16
      ||| by1.setWidth 32 <<< 8 ||| by0.setWidth 32
  | .packet b0 b1 b2 =>
    0x82000000#32 ||| b2.setWidth 32 <<< 16 ||| b1.setWidth 32 <<< 8 ||| b0.setWidth 32
  | .gestureDone => 0x83000000#32
  | .discard ch kind =>
    0x84000000#32 ||| ch.number.setWidth 32 <<< 8 ||| kind.code.setWidth 32

/-! ## The consumer's reading of a word -/

/-- The error kind of a code (R280); codes 0x00 and 0x08 to 0xFF name none. -/
def errorKindOf (c : Byte) : Option ErrorKind :=
  [ErrorKind.pollTimeout, .parityError, .controllerTimeoutError, .wrongOriginError, .syncError,
    .illegalOp, .commandNack].find? fun k => k.code == c

/-- The channel of a number (R110); the number 3 names none. -/
def recordChannelOf (n : BitVec 2) : Option RecordChannel :=
  [RecordChannel.kbd, .mouse, .ctrl].find? fun ch => ch.number == n

/-- The record a word of the output stream is, by its tag (R109) and its layout (R111 to R114); a word
with another tag, a reserved bit set, or a code or channel that R280 and R110 do not name is none. -/
def recordOf (w : Word) : Option Record :=
  let tag : Byte := w.extractLsb' 24 8
  if tag = 0x81#8 then
    if (w.extractLsb' 18 6 : BitVec 6) = 0#6 then
      some (.key (w.getLsbD 16) (if w.getLsbD 17 then .two else .one) (w.extractLsb' 0 8)
        (w.extractLsb' 8 8))
    else none
  else if tag = 0x82#8 then
    some (.packet (w.extractLsb' 0 8) (w.extractLsb' 8 8) (w.extractLsb' 16 8))
  else if w = 0x83000000#32 then some .gestureDone
  else if tag = 0x84#8 ∧ (w.extractLsb' 10 14 : BitVec 14) = 0#14 then
    match recordChannelOf (w.extractLsb' 8 2), errorKindOf (w.extractLsb' 0 8) with
    | some ch, some kind => some (.discard ch kind)
    | _, _ => none
  else none

end Sys2Proof.Machine
end

