-- ==== Sys2Proof/Machine/Flags.lean ====
section
/-! DEFINITION. The tests the procedures make: status-byte bits and their validation, the button
predicates, the gesture's comparisons, and the sums' arithmetic. The block has no condition
codes (R47). -/

namespace Sys2Proof.Machine

/-- `ST(s, OBF)` (R17, R90). -/
def obfSet (p : Config.Params) (st : Byte) : Bool := st.getLsbD p.stObf

/-- `validate(KBD, s)`: the first test that fails, in this order, decides the kind (R134). -/
def validateKbd (p : Config.Params) (st : Byte) : Option ErrorKind :=
  if st.getLsbD p.stParity then some .parityError
  else if st.getLsbD p.stTimeout then some .controllerTimeoutError
  else if st.getLsbD p.stAux then some .wrongOriginError
  else none

/-- `validate(MOUSE, s)`: the origin test is inverted (R173). -/
def validateMouse (p : Config.Params) (st : Byte) : Option ErrorKind :=
  if st.getLsbD p.stParity then some .parityError
  else if st.getLsbD p.stTimeout then some .controllerTimeoutError
  else if !st.getLsbD p.stAux then some .wrongOriginError
  else none

/-- `validate(ch, s)` of the drain (R130): the error kind raised, if one is. -/
def validate (p : Config.Params) (ch : Channel) (st : Byte) : Option ErrorKind :=
  match ch with
  | .kbd => validateKbd p st
  | .mouse => validateMouse p st

/-- `left_only` (R17). -/
def leftOnly (b : Buttons) : Bool := b.lb && !b.rb && !b.mb

/-- `right_only` (R17). -/
def rightOnly (b : Buttons) : Bool := !b.lb && b.rb && !b.mb

/-- `released` (R17). -/
def released (b : Buttons) : Bool := !b.lb && !b.rb && !b.mb

/-- STROKE_1's abort test, `dx < −tol or dy < −tol` (R215). -/
def strokeOneBackward (tol dx dy : Int) : Bool := decide (dx < -tol) || decide (dy < -tol)

/-- STROKE_2's abort test, `dx < −tol or dy > tol` (R222). -/
def strokeTwoBackward (tol dx dy : Int) : Bool := decide (dx < -tol) || decide (dy > tol)

/-- APEX's motion test, `abs(dx) > tol or abs(dy) > tol`; `abs(−256)` is 256 (R219, R229). -/
def motionExceeds (tol dx dy : Int) : Bool :=
  decide ((dx.natAbs : Int) > tol) || decide ((dy.natAbs : Int) > tol)

/-- STROKE_1's release test, `X_SUM ≥ xlen and Y_SUM > X_SUM` (R217). -/
def strokeOneDone (xlen x y : Int) : Bool := decide (x ≥ xlen) && decide (y > x)

/-- STROKE_2's release test, `X_SUM ≥ xlen and −Y_SUM > X_SUM`, on integers (R224, R229). -/
def strokeTwoDone (xlen x y : Int) : Bool := decide (x ≥ xlen) && decide (-y > x)

/-- `max(0, wrap_N(SUM + d))`, `N` being `SUM_WIDTH` (R216, R223, R230). -/
def addClampedBelow (p : Config.Params) (sum d : Int) : Int := max 0 (wrapTo p.sumWidth (sum + d))

/-- `min(0, wrap_N(SUM + d))`, `N` being `SUM_WIDTH` (R223, R230). -/
def addClampedAbove (p : Config.Params) (sum d : Int) : Int := min 0 (wrapTo p.sumWidth (sum + d))

/-- The level form of the gesture-completed signal, `GEST_STATE = COMPLETE` (R227). -/
def gestureCompleted (s : State) : Bool := s.gestState == .complete

end Sys2Proof.Machine
end

