-- ==== Sys2Proof/Machine/Ops.lean ====
section
/-! DEFINITION. The shared operations: taking what the host presents, reading a port, emitting a
record, raising an error, the register updates, the drain, and reset. The block has no trap (R288):
`raise` is its one reaction to an error, and there is no return instruction (R289). -/

namespace Sys2Proof.Machine

/-! ## The command port -/

/-- What the block takes next from the host, and the state without it: "each operation arrives on
the command port, is executed once, and is gone", in the order of arrival (R31). With nothing
presented there is nothing to take. -/
def takeInput (s : State) : Option (Input × State) :=
  match s.inputs with
  | [] => none
  | i :: rest => some (i, { s with inputs := rest })

/-- The state in which the host has presented `v` on the command port ahead of all else. -/
def presentWord (v : Nat) (s : State) : State := { s with inputs := .word v :: s.inputs }

/-! ## Output -/

/-- `Emit(rec)`: appends the record to the output stream (R14). -/
def emit (r : Record) (s : State) : State := { s with out := s.out ++ [r.word] }

/-- `raise <Kind>(ch)`: emits one DISCARD record; the writes made before it stand, and the handler
that raises returns this state at once (R15, R116). -/
def raise (kind : ErrorKind) (ch : RecordChannel) (s : State) : State := emit (.discard ch kind) s

/-- What the block does with an illegal word: it writes no register, reads no port, and emits one
DISCARD record with kind IllegalOp and channel CTRL (R104). -/
def illegalOp (s : State) : State := raise .illegalOp .ctrl s

/-! ## Ports -/

/-- The number the block drives for a port (R70). -/
def portAddr (p : Config.Params) : Config.Port → PortAddr
  | .status => p.statusPort
  | .data => p.dataPort

/-- The byte a read of a port answers now: the environment's next listed answer, or, when none is
listed, a free value of its own (R74; log 3). -/
def portAnswer (p : Config.Params) (port : Config.Port) (s : State) : Byte :=
  match port with
  | .status => s.statusIn.head?.getD (Config.portDraw p.statusPort s.portReads.length)
  | .data => s.dataIn.head?.getD (Config.portDraw p.dataPort s.portReads.length)

/-- The state after a read of a port: its listed answer is used up, and the read is recorded. -/
def afterRead (p : Config.Params) (port : Config.Port) (s : State) : State :=
  match port with
  | .status =>
    { s with statusIn := s.statusIn.tail, portReads := s.portReads ++ [portAddr p .status] }
  | .data =>
    { s with dataIn := s.dataIn.tail, portReads := s.portReads ++ [portAddr p .data] }

/-- `MemRead(port, 1)`, the block's only access to the outside (R16, R71). It never fails (R74). -/
def memRead (p : Config.Params) (port : Config.Port) (s : State) : Byte × State :=
  (portAnswer p port s, afterRead p port s)

/-! ## Registers -/

/-- The subscription bit of a channel (R33). -/
def subscribed (ch : Channel) (s : State) : Bool := s.sub.getLsbD (channelBit ch)

/-- `SUB.ch <- 1` (R262). -/
def setSub (ch : Channel) (s : State) : State :=
  { s with sub := s.sub ||| 1#2 <<< channelBit ch }

/-- `SUB.ch <- 0` (R263). -/
def clearSub (ch : Channel) (s : State) : State :=
  { s with sub := s.sub &&& ~~~(1#2 <<< channelBit ch) }

/-- `KBD_LAST <- d` in a keyboard drain; a mouse drain writes no register (R130, R137, R170). -/
def recordLast (ch : Channel) (d : Byte) (s : State) : State :=
  match ch with
  | .kbd => { s with kbdLast := d }
  | .mouse => s

/-- `KBD_PREFIX <- b; KBD_PENDING <- 1` (R144). -/
def armPrefix (b : Byte) (s : State) : State := { s with kbdPrefix := b, kbdPending := true }

/-- `KBD_PENDING <- 0` (R144). -/
def clearPending (s : State) : State := { s with kbdPending := false }

/-- Slot 0's writes (R181). -/
def captureByte0 (p : Config.Params) (b : Byte) (s : State) : State :=
  { s with
    mouseB0 := b, mouseXS := b.getLsbD p.xsignBit, mouseYS := b.getLsbD p.ysignBit,
    mouseSlot := .slot1 }

/-- Slot 1's writes (R182). -/
def captureByte1 (p : Config.Params) (b : Byte) (s : State) : State :=
  { s with mouseB1 := b, mouseDX := deltaOf p s.mouseXS b, mouseSlot := .slot2 }

/-- Slot 2's writes (R183, steps 1 to 3). -/
def captureByte2 (p : Config.Params) (b : Byte) (s : State) : State :=
  { s with mouseB2 := b, mouseDY := deltaOf p s.mouseYS b, mouseSlot := .slot0 }

/-- `transition(S)`: the state changes and both sums become 0 (R211). -/
def transition (g : GestState) (s : State) : State :=
  { s with gestState := g, xSum := 0, ySum := 0 }

/-- The two sums' writes of a stroke's self-loop (R216, R223). -/
def writeSums (x y : Int) (s : State) : State := { s with xSum := x, ySum := y }

/-- `GEST_XLEN <- x_len; GEST_TOL <- tol` (R245). -/
def writeParams (p : Config.Params) (xLen tol : Byte) (s : State) : State :=
  { s with gestXLen := thresholdOf p xLen, gestTol := thresholdOf p tol }

/-! ## The drain -/

/-- At most `budget` samples of the status port; the first with output-buffer-full ends the polling
and is returned, and the others are dropped without effect (R130 to R132). The wait between two
samples is timing only (R139). -/
def poll (p : Config.Params) : (budget : Nat) → State → Option Byte × State
  | 0, s => (none, s)
  | budget + 1, s =>
    let (st, s') := memRead p .status s
    if obfSet p st then (some st, s') else poll p budget s'

/-- `drain(ch)` (R130): the byte when the read validates, or the error kind to raise. The data port is
read once, after the sample with output-buffer-full and before the validation (R133); a poll that
times out reads no data byte (R136). -/
def drain (p : Config.Params) (ch : Channel) (s : State) : Except ErrorKind Byte × State :=
  match poll p p.pollBudget s with
  | (none, s1) => (.error .pollTimeout, s1)
  | (some st, s1) =>
    let (d, s2) := memRead p .data s1
    let s3 := recordLast ch d s2
    match validate p ch st with
    | some kind => (.error kind, s3)
    | none => (.ok d, s3)

/-! ## Reset -/

/-- Reset applied to the block: every register at its reset value and no record on the output stream
(R320). What the host has still to present and what the environment will answer are not the block's
(log 2), and its configuration is no state that a reset changes (log 8). -/
def blockReset (s : State) : State :=
  { State.reset with
    inputs := s.inputs, statusIn := s.statusIn, dataIn := s.dataIn, portReads := s.portReads,
    config := s.config }

end Sys2Proof.Machine
end

