-- ==== Sys2Proof/Machine/Keyboard.lean ====
section
/-! DEFINITION. The keyboard channel: the scancode reassembler, its handler, and the operations
KBD_INT and KBD_REASM (41_keyboard.md). -/

namespace Sys2Proof.Machine

/-- `kbd_reassemble(b)` (R144). The prefix test comes first, so a prefix while one is pending is
stored again and emits nothing (R146, 90_conflicts C2). -/
def kbdReassemble (p : Config.Params) (b : Byte) (s : State) : State :=
  if b = p.extPrefix then armPrefix b s
  else if s.kbdPending then emit (.key (isMake p b) .two s.kbdPrefix b) (clearPending s)
  else emit (.key (isMake p b) .one b 0x00#8) s

/-- The keyboard handler: a drain, then the reassembler; a failed drain is reported and changes no
reassembly state (R138, R140). -/
def kbdHandler (p : Config.Params) (s : State) : State :=
  match drain p .kbd s with
  | (.error kind, s') => raise kind .kbd s'
  | (.ok d, s') => kbdReassemble p d s'

/-- KBD_INT (R140). It runs whatever `SUB` holds. -/
def execKbdInt (s : State) : Host.Outcome State Fault Refusal := .next (kbdHandler s.config s)

/-- KBD_REASM b (R144). -/
def execKbdReasm (b : Byte) (s : State) : Host.Outcome State Fault Refusal :=
  .next (kbdReassemble s.config b s)

end Sys2Proof.Machine
end

