-- ==== Sys2Proof/Machine/Gesture.lean ====
section
/-! DEFINITION. The gesture FSM: the gesture step and the operations GEST_STEP, GEST_RESET and
GEST_CFG (43_gesture.md). -/

namespace Sys2Proof.Machine

/-- STROKE_1's arm of the gesture step (R215 to R218). -/
def stepStrokeOne (p : Config.Params) (b : Buttons) (dx dy : Int) (s : State) : State :=
  if leftOnly b then
    if strokeOneBackward (tolOf s) dx dy then transition .idle s
    else writeSums (addClampedBelow p s.xSum dx) (addClampedBelow p s.ySum dy) s
  else if released b then
    if strokeOneDone (xLenOf s) s.xSum s.ySum then transition .apex s else transition .idle s
  else transition .idle s

/-- APEX's arm: the abort tests come first, and a released packet with small motion stays
(R219 to R221). -/
def stepApex (b : Buttons) (dx dy : Int) (s : State) : State :=
  if b.lb || b.mb || motionExceeds (tolOf s) dx dy then transition .idle s
  else if b.rb then transition .stroke2 s
  else s

/-- STROKE_2's arm (R222 to R225, R227). -/
def stepStrokeTwo (p : Config.Params) (b : Buttons) (dx dy : Int) (s : State) : State :=
  if rightOnly b then
    if strokeTwoBackward (tolOf s) dx dy then transition .idle s
    else writeSums (addClampedBelow p s.xSum dx) (addClampedAbove p s.ySum dy) s
  else if released b then
    if strokeTwoDone (xLenOf s) s.xSum s.ySum then emit .gestureDone (transition .complete s)
    else transition .idle s
  else transition .idle s

/-- `gesture_step(lb, rb, mb, dx, dy)` (R212). In COMPLETE nothing changes (R226). -/
def gestureStep (p : Config.Params) (b : Buttons) (dx dy : Int) (s : State) : State :=
  match s.gestState with
  | .idle => if leftOnly b then transition .stroke1 s else s
  | .stroke1 => stepStrokeOne p b dx dy s
  | .apex => stepApex b dx dy s
  | .stroke2 => stepStrokeTwo p b dx dy s
  | .complete => s

/-- GEST_STEP lb, rb, mb, dx, dy (R240). -/
def execGestStep (lb rb mb : Bool) (dx dy : Int) (s : State) : Host.Outcome State Fault Refusal :=
  .next (gestureStep s.config ⟨lb, rb, mb⟩ dx dy s)

/-- GEST_RESET: `GEST_STATE <- IDLE; X_SUM <- 0; Y_SUM <- 0`, in every state (R243). -/
def execGestReset (s : State) : Host.Outcome State Fault Refusal := .next (transition .idle s)

/-- GEST_CFG x_len, tol (R245). -/
def execGestCfg (xLen tol : Byte) (s : State) : Host.Outcome State Fault Refusal :=
  .next (writeParams s.config xLen tol s)

end Sys2Proof.Machine
end

