-- ==== Sys2Proof/Machine/Mouse.lean ====
section
/-! DEFINITION. The mouse channel: the packet reassembler, its handler, and the operations MOUSE_INT
and MOUSE_REASM (42_mouse.md). -/

namespace Sys2Proof.Machine

/-- A completed packet: its PACKET record first, then one gesture step (R183 step 4, R185). -/
def packetComplete (p : Config.Params) (s : State) : State :=
  gestureStep p (buttonsOf p s.mouseB0) s.mouseDX s.mouseDY
    (emit (.packet s.mouseB0 s.mouseB1 s.mouseB2) s)

/-- `mouse_reassemble(b)` (R180). Only slot 0 tests a bit of the byte (R184, R182). -/
def mouseReassemble (p : Config.Params) (b : Byte) (s : State) : State :=
  match s.mouseSlot with
  | .slot0 => if b.getLsbD p.syncBit then captureByte0 p b s else raise .syncError .mouse s
  | .slot1 => captureByte1 p b s
  | .slot2 => packetComplete p (captureByte2 p b s)

/-- The mouse handler: a drain, then the reassembler; a failed drain is reported and changes no mouse
state (R174, R175). -/
def mouseHandler (p : Config.Params) (s : State) : State :=
  match drain p .mouse s with
  | (.error kind, s') => raise kind .mouse s'
  | (.ok d, s') => mouseReassemble p d s'

/-- MOUSE_INT (R175). It runs whatever `SUB` holds. -/
def execMouseInt (s : State) : Host.Outcome State Fault Refusal := .next (mouseHandler s.config s)

/-- MOUSE_REASM b (R180). -/
def execMouseReasm (b : Byte) (s : State) : Host.Outcome State Fault Refusal :=
  .next (mouseReassemble s.config b s)

end Sys2Proof.Machine
end

