-- ==== Sys2Proof/Machine/Subscription.lean ====
section
/-! DEFINITION. Subscription, the interrupt notification and NOP: the operations NOP, SUB, UNSUB and
IRQ (44_dispatch.md). -/

namespace Sys2Proof.Machine

/-- NOP: no effect (R260). -/
def execNop (s : State) : Host.Outcome State Fault Refusal := .next s

/-- SUB ch (R262). -/
def execSub (ch : Channel) (s : State) : Host.Outcome State Fault Refusal := .next (setSub ch s)

/-- UNSUB ch (R263). -/
def execUnsub (ch : Channel) (s : State) : Host.Outcome State Fault Refusal := .next (clearSub ch s)

/-- The keyboard half of IRQ: the handler runs when the keyboard's bit fired and it is subscribed
(R266). -/
def irqKbd (p : Config.Params) (m : Byte) (s : State) : State :=
  if m.getLsbD p.irqBitKbd && subscribed .kbd s then kbdHandler p s else s

/-- The mouse half of IRQ (R266). -/
def irqMouse (p : Config.Params) (m : Byte) (s : State) : State :=
  if m.getLsbD p.irqBitMouse && subscribed .mouse s then mouseHandler p s else s

/-- IRQ's dispatch: the keyboard handler to completion, then the mouse handler, which runs also after
an error of the first (R15, R266, R267). -/
def irqDispatch (p : Config.Params) (m : Byte) (s : State) : State :=
  irqMouse p m (irqKbd p m s)

/-- IRQ m (R266). -/
def execIrq (m : Byte) (s : State) : Host.Outcome State Fault Refusal :=
  .next (irqDispatch s.config m s)

end Sys2Proof.Machine
end

