-- ==== Sys2Proof/Machine/Dispatch.lean ====
section
/-! DEFINITION. One arm per operation of R102. -/

namespace Sys2Proof.Machine

def exec (i : Instr) (s : State) : Host.Outcome State Fault Refusal :=
  match i with
  | .nop => Sys2Proof.Machine.execNop s
  | .sub ch => Sys2Proof.Machine.execSub ch s
  | .unsub ch => Sys2Proof.Machine.execUnsub ch s
  | .irq m => Sys2Proof.Machine.execIrq m s
  | .kbdInt => Sys2Proof.Machine.execKbdInt s
  | .kbdReasm b => Sys2Proof.Machine.execKbdReasm b s
  | .mouseInt => Sys2Proof.Machine.execMouseInt s
  | .mouseReasm b => Sys2Proof.Machine.execMouseReasm b s
  | .gestStep lb rb mb dx dy => Sys2Proof.Machine.execGestStep lb rb mb dx dy s
  | .gestReset => Sys2Proof.Machine.execGestReset s
  | .gestCfg xLen tol => Sys2Proof.Machine.execGestCfg xLen tol s

end Sys2Proof.Machine
end

