-- ==== Sys2Proof/Machine/Step.lean ====
section
/-! DEFINITION. One step of the block: it takes the next input and runs it to completion (R8, R78). -/

namespace Sys2Proof.Machine

/-- One step. With nothing presented the block waits and keeps its state (R296, R321; log 1). A
reset puts it in its reset state (R320). A word of the command port is decoded on its own (R96, R106): a
legal one runs, an illegal one is reported (R104). -/
def step (s : State) : Host.Outcome State Fault Refusal :=
  match takeInput s with
  | none => .next s
  | some (.reset, s') => .next (blockReset s')
  | some (.word v, s') =>
    match decodeCommand s.config v with
    | .ok i => exec i s'
    | .error _ => .next (illegalOp s')

/-- The state whose very next step takes the table's word `w` of `nbits` bits: the host has presented
it ahead of all else. Nothing else changes (log 17). -/
def State.withFetchWord (s : State) (nbits w : Nat) : State :=
  presentWord (tableWord nbits w).toNat s

end Sys2Proof.Machine
end

