-- ==== Sys2Proof/Safety.lean ====
section
/-! DEFINITION. The terms claims are stated in: the invariants of R49, the records the block may
produce, and what the environment answers to a drain. -/

namespace Sys2Proof.Safety

open Sys2Proof.Machine

/-- The seven invariants of R49, in its order, at the state's own parameters. -/
structure Invariant (s : State) : Prop where
  prefixStored : s.kbdPending = true → s.kbdPrefix = s.config.extPrefix
  slotLegal : s.mouseSlot.value ∈ [0#2, 1#2, 2#2]
  packetOpen : s.mouseSlot ≠ .slot0 →
    s.mouseB0.getLsbD s.config.syncBit = true ∧
      s.mouseXS = s.mouseB0.getLsbD s.config.xsignBit ∧
      s.mouseYS = s.mouseB0.getLsbD s.config.ysignBit
  gestLegal : s.gestState.value ∈ [0#3, 1#3, 2#3, 3#3, 4#3]
  sumsZero : s.gestState ≠ .stroke1 → s.gestState ≠ .stroke2 → s.xSum = 0 ∧ s.ySum = 0
  strokeOneSums : s.gestState = .stroke1 → 0 ≤ s.xSum ∧ 0 ≤ s.ySum
  strokeTwoSums : s.gestState = .stroke2 → 0 ≤ s.xSum ∧ s.ySum ≤ 0

/-- `n` bits hold `v` in two's complement: it lies in [−2^(n−1), 2^(n−1) − 1] (R11). -/
def fitsSigned (n : Nat) (v : Int) : Prop := -2 ^ n ≤ 2 * v ∧ 2 * v < 2 ^ n

/-- Every register whose width R9 makes a parameter holds a number of that width (R30). The other
registers' widths are their types'. -/
structure RegistersFit (s : State) : Prop where
  deltaX : fitsSigned s.config.deltaWidth s.mouseDX
  deltaY : fitsSigned s.config.deltaWidth s.mouseDY
  xSum : fitsSigned s.config.sumWidth s.xSum
  ySum : fitsSigned s.config.sumWidth s.ySum
  xLen : s.gestXLen < 2 ^ s.config.paramWidth
  tol : s.gestTol < 2 ^ s.config.paramWidth

/-- The channel and kind pairs of R280's table, which never has CommandNack. -/
def discardAllowed : RecordChannel → ErrorKind → Bool
  | .kbd, .pollTimeout | .kbd, .parityError | .kbd, .controllerTimeoutError
  | .kbd, .wrongOriginError => true
  | .mouse, .pollTimeout | .mouse, .parityError | .mouse, .controllerTimeoutError
  | .mouse, .wrongOriginError | .mouse, .syncError => true
  | .ctrl, .illegalOp => true
  | _, _ => false

/-- The records the rules produce: a length-1 event has `bytes[1]` = 0x00 (R148) and its byte is no
prefix (R144); a length-2 event begins with the prefix and does not end with it (R76, R146); in
both, `is_make` is read from the final byte (R145); a packet's byte 0 has its sync bit (R187); a
DISCARD is one of R280's. -/
def recordAllowed (p : Config.Params) : Record → Bool
  | .key make .one by0 by1 =>
    by1 == 0x00#8 && by0 != p.extPrefix && make == !by0.getLsbD p.breakBit
  | .key make .two by0 by1 =>
    by0 == p.extPrefix && by1 != p.extPrefix && make == !by1.getLsbD p.breakBit
  | .packet b0 _ _ => b0.getLsbD p.syncBit
  | .gestureDone => true
  | .discard ch kind => discardAllowed ch kind

/-- A word that is the word of a record the rules produce. -/
def wordAllowed (p : Config.Params) (w : Word) : Prop :=
  ∃ r : Record, recordAllowed p r = true ∧ w = r.word

/-- Every record on the output stream is one the rules produce. -/
def outputAllowed (s : State) : Prop := ∀ w ∈ s.out, wordAllowed s.config w

/-- The byte that the `i`-th status read from now answers, counting from 0 (R131): the `i`-th listed
answer, or past the list the free value of that read (R74). -/
def statusAt (p : Config.Params) (s : State) (i : Nat) : Byte :=
  (s.statusIn[i]?).getD (Config.portDraw p.statusPort (s.portReads.length + i))

/-- The byte that the first data read from now answers when `k` status reads come before it. -/
def dataAt (p : Config.Params) (s : State) (k : Nat) : Byte :=
  (s.dataIn.head?).getD (Config.portDraw p.dataPort (s.portReads.length + k))

/-- The state after `k` status reads and nothing else. -/
def afterSamples (p : Config.Params) (k : Nat) (s : State) : State :=
  { s with
    statusIn := s.statusIn.drop k, portReads := s.portReads ++ List.replicate k p.statusPort }

/-- The state after `k` status reads and then one data read, and nothing else. -/
def afterDrain (p : Config.Params) (k : Nat) (s : State) : State :=
  { s with
    statusIn := s.statusIn.drop k, dataIn := s.dataIn.drop 1,
    portReads := s.portReads ++ List.replicate k p.statusPort ++ [p.dataPort] }

/-- Sample `k` is the first that shows output-buffer-full, and the budget allows it (R131, R132). -/
def firstFull (p : Config.Params) (s : State) (k : Nat) : Prop :=
  k < p.pollBudget ∧ (statusAt p s k).getLsbD p.stObf = true ∧
    ∀ i < k, (statusAt p s i).getLsbD p.stObf = false

/-- No sample within the budget shows output-buffer-full (R136). -/
def neverFull (p : Config.Params) (s : State) : Prop :=
  ∀ i < p.pollBudget, (statusAt p s i).getLsbD p.stObf = false

/-- Two states with the same keyboard registers. -/
def sameKeyboard (s t : State) : Prop :=
  t.kbdPending = s.kbdPending ∧ t.kbdPrefix = s.kbdPrefix ∧ t.kbdLast = s.kbdLast

/-- Two states with the same mouse registers. -/
def sameMouse (s t : State) : Prop :=
  t.mouseSlot = s.mouseSlot ∧ t.mouseB0 = s.mouseB0 ∧ t.mouseB1 = s.mouseB1 ∧
    t.mouseB2 = s.mouseB2 ∧ t.mouseXS = s.mouseXS ∧ t.mouseYS = s.mouseYS ∧
    t.mouseDX = s.mouseDX ∧ t.mouseDY = s.mouseDY

/-- Two states with the same gesture state and sums. -/
def sameGesture (s t : State) : Prop :=
  t.gestState = s.gestState ∧ t.xSum = s.xSum ∧ t.ySum = s.ySum

/-- Two states with the same gesture parameters. -/
def sameParams (s t : State) : Prop := t.gestXLen = s.gestXLen ∧ t.gestTol = s.gestTol

/-- Two states with the same port side: nothing was read from one to the other. -/
def samePorts (s t : State) : Prop :=
  t.statusIn = s.statusIn ∧ t.dataIn = s.dataIn ∧ t.portReads = s.portReads

/-! ## The rules' own words, apart from the procedures that realise them -/

/-- R104's two cases, read off its text: an opcode outside R102's table, or a reserved operand bit of
the opcode's format (R97 to R101) that is 1. A word with a bit above bit 31 has no opcode of the
table either. -/
def illegalWord (v : Nat) : Bool :=
  let opcode := v / 2 ^ 24
  let operand := v % 2 ^ 24
  if opcode ∈ [0x00, 0x10, 0x20, 0x31] then operand != 0
  else if opcode ∈ [0x01, 0x02] then operand / 2 != 0
  else if opcode ∈ [0x03, 0x11, 0x21] then operand / 2 ^ 8 != 0
  else if opcode = 0x30 then operand / 2 ^ 3 % 2 ^ 3 != 0
  else if opcode = 0x32 then operand / 2 ^ 16 != 0
  else true

/-- The KEY records of a sequence of keyboard bytes, by R149's count: one for each byte other than the
prefix, of length 2 exactly when the byte just before was the prefix. `afterPrefix` says whether the
byte before the first was one. -/
def keyEvents (p : Config.Params) : (afterPrefix : Bool) → List Byte → List Record
  | _, [] => []
  | afterPrefix, b :: bs =>
    if b = p.extPrefix then keyEvents p true bs
    else
      (if afterPrefix then .key (!b.getLsbD p.breakBit) .two p.extPrefix b
        else .key (!b.getLsbD p.breakBit) .one b 0x00#8) :: keyEvents p false bs

/-- `wrap_N(v)` (R11), by remainder: the `n` low bits of `v`, read with their sign. -/
def wrapped (n : Nat) (v : Int) : Int :=
  if 2 * (v % 2 ^ n) < 2 ^ n then v % 2 ^ n else v % 2 ^ n - 2 ^ n

/-- The transition table of R233, one line for each of its cells. `small` is its
`abs(dx) ≤ tol and abs(dy) ≤ tol`. -/
def gestureTable (lb rb mb : Bool) (dx dy : Int) (s : State) : State :=
  let xlen : Int := s.gestXLen
  let tol : Int := s.gestTol
  let x := s.xSum
  let y := s.ySum
  let wrap := wrapped s.config.sumWidth
  let go (g : GestState) : State := { s with gestState := g, xSum := 0, ySum := 0 }
  let small : Bool :=
    decide (-tol ≤ dx) && decide (dx ≤ tol) && decide (-tol ≤ dy) && decide (dy ≤ tol)
  match s.gestState, lb, rb, mb with
  | .idle, true, false, false => go .stroke1
  | .idle, _, _, _ => s
  | .stroke1, true, false, false =>
    if dx < -tol ∨ dy < -tol then go .idle
    else { s with xSum := max 0 (wrap (x + dx)), ySum := max 0 (wrap (y + dy)) }
  | .stroke1, false, false, false => if xlen ≤ x ∧ x < y then go .apex else go .idle
  | .stroke1, _, _, _ => go .idle
  | .apex, false, true, false => if small then go .stroke2 else go .idle
  | .apex, false, false, false => if small then s else go .idle
  | .apex, _, _, _ => go .idle
  | .stroke2, false, true, false =>
    if dx < -tol ∨ tol < dy then go .idle
    else { s with xSum := max 0 (wrap (x + dx)), ySum := min 0 (wrap (y + dy)) }
  | .stroke2, false, false, false =>
    if xlen ≤ x ∧ x < -y then { go .complete with out := s.out ++ [0x83000000#32] } else go .idle
  | .stroke2, _, _, _ => go .idle
  | .complete, _, _, _ => s

/-- The port reads one operation can make: a drain's `POLL_BUDGET` samples and one data byte, twice in
an IRQ (R269, R336), and none in every other operation. -/
def portReadBound (p : Config.Params) : Instr → Nat
  | .kbdInt => p.pollBudget + 1
  | .mouseInt => p.pollBudget + 1
  | .irq _ => 2 * (p.pollBudget + 1)
  | .nop => 0
  | .sub _ => 0
  | .unsub _ => 0
  | .kbdReasm _ => 0
  | .mouseReasm _ => 0
  | .gestStep _ _ _ _ _ => 0
  | .gestReset => 0
  | .gestCfg _ _ => 0

/-- The operations that can hand a byte to the scancode reassembler: an IRQ only when its bit
`IRQ_BIT_KBD` is set (R266). -/
def touchesKeyboard (p : Config.Params) : Instr → Bool
  | .kbdInt => true
  | .kbdReasm _ => true
  | .irq m => m.getLsbD p.irqBitKbd
  | _ => false

/-- The operations that can hand a byte to the packet reassembler: an IRQ only when its bit
`IRQ_BIT_MOUSE` is set (R266). -/
def touchesMouse (p : Config.Params) : Instr → Bool
  | .mouseInt => true
  | .mouseReasm _ => true
  | .irq m => m.getLsbD p.irqBitMouse
  | _ => false

/-- The operations run one after the other, to the first that does not answer a next state. -/
def execAll : List Instr → State → Host.Outcome State Fault Refusal
  | [], s => .next s
  | i :: is, s =>
    match exec i s with
    | .next t => execAll is t
    | .fault r => .fault r
    | .refused r => .refused r

/-- A record of the keyboard channel: a KEY, or a DISCARD on channel KBD (R110). -/
def isKbdRecord : Record → Bool
  | .key _ _ _ _ => true
  | .discard .kbd _ => true
  | _ => false

/-- A record of the mouse channel: a PACKET, a GESTURE_DONE, or a DISCARD on channel MOUSE (R110). -/
def isMouseRecord : Record → Bool
  | .packet _ _ _ => true
  | .gestureDone => true
  | .discard .mouse _ => true
  | _ => false

/-- The states that runs from reset reach, with any parameters that meet R9's constraints, whatever
the host presents and the environment answers. -/
inductive Reachable : State → Prop
  | start (config : Config.Params) (inputs : List Input) (statusIn dataIn : List Byte) :
      config.wellFormed = true →
      Reachable
        { State.reset with
          config := config, inputs := inputs, statusIn := statusIn, dataIn := dataIn }
  | step {s t : State} : Reachable s → step s = .next t → Reachable t

end Sys2Proof.Safety
end

