-- ==== Sys2Proof/Certificates/Slice0/Obligations.lean ====
section
/-! DEFINITION. The statements for the provers. A statement about an operation gives its whole next
state by an equation where it can: what the equation does not name is unchanged. A state carries its
parameters (R9), so a statement about every state is one about every value of them; it names a bit,
a port or a width by its parameter, as the rules do. -/

open Sys2Proof Sys2Proof.Machine Sys2Proof.Safety

/-! ## Encoding -/

/-- Every well-formed operation decodes from its own word (R97 to R103, R106), and from it on every
command port wide enough to take the whole word. R96 lays out 32 bits only: the second clause, for an
`OP_WIDTH` of more than 32, is the MODEL's choice (log 9). -/
def Obligations.DecodeEncodeRoundTrip : Prop :=
  ∀ i : Instr, i.wellFormed = true →
    decode (encode i) = .ok i ∧
      ∀ p : Config.Params, 32 ≤ p.opWidth → decodeCommand p (encode i).toNat = .ok i

/-- Every word that decodes is the word of the operation it decodes to, and the operands are in the
ranges of R103; so is every word that the command port takes, whatever its width. The second clause,
for an `OP_WIDTH` other than 32, is the MODEL's choice (log 9): a set bit above bit 31 makes a word
illegal, and a bit that a narrower word lacks is 0. -/
def Obligations.DecodedWordIsItsEncoding : Prop :=
  (∀ (w : Word) (i : Instr), decode w = .ok i → i.wellFormed = true ∧ encode i = w) ∧
  ∀ (p : Config.Params) (v : Nat) (i : Instr), decodeCommand p v = .ok i →
    i.wellFormed = true ∧ (encode i).toNat = v % 2 ^ p.opWidth

/-- R106: exactly one row of R102 with its operands, or IllegalOp; and a command port of 32 bits decodes
the 32 bits presented. -/
def Obligations.WordSelectsOneRowOrIsIllegal : Prop :=
  (∀ w : Word,
    (∃ r ∈ rows, r.selects w = true ∧ (∀ r' ∈ rows, r'.selects w = true → r' = r) ∧
      decode w = .ok (operandsOf r.op w)) ∨
    ((∀ r ∈ rows, r.selects w = false) ∧ ∃ reason, decode w = .error reason)) ∧
  ∀ (p : Config.Params) (w : Word), p.opWidth = 32 → decodeCommand p w.toNat = decode w

/-- Words written out by the spec (95_test_vectors section 2.1, R107's examples) decode to the
operations they stand for, one or more of each family. -/
def Obligations.SpecWordsDecode : Prop :=
  decode 0x00000000#32 = .ok .nop ∧
  decode 0x01000001#32 = .ok (.sub .mouse) ∧
  decode 0x02000000#32 = .ok (.unsub .kbd) ∧
  decode 0x03000003#32 = .ok (.irq 0x03#8) ∧
  decode 0x10000000#32 = .ok .kbdInt ∧
  decode 0x110000E0#32 = .ok (.kbdReasm 0xE0#8) ∧
  decode 0x20000000#32 = .ok .mouseInt ∧
  decode 0x210000FF#32 = .ok (.mouseReasm 0xFF#8) ∧
  decode 0x30FE8141#32 = .ok (.gestStep true false false 5 (-3)) ∧
  decode 0x31000000#32 = .ok .gestReset ∧
  decode 0x3200020A#32 = .ok (.gestCfg 10#8 2#8)

/-- R104: an illegal word writes no register, reads no port, emits DISCARD(CTRL, IllegalOp), and the
next word is then the next input; the words of a 32-bit command port that are illegal are those of
R104's two cases, and every other word decodes to an operation. -/
def Obligations.IllegalWordOnlyDiscards : Prop :=
  (∀ (s : State) (v : Nat) (rest : List Input) (reason : IllegalReason),
    s.inputs = .word v :: rest → decodeCommand s.config v = .error reason →
      step s = .next { s with inputs := rest, out := s.out ++ [0x84000206#32] }) ∧
  ∀ (p : Config.Params) (v : Nat), p.opWidth = 32 →
    if illegalWord (v % 2 ^ 32) then ∃ reason, decodeCommand p v = .error reason
    else ∃ i, decodeCommand p v = .ok i

/-! ## Records -/

/-- The fields of a KEY record are where R111 puts them, and those of a DISCARD record where R114 puts
them; R111's example. -/
def Obligations.KeyAndDiscardLayouts : Prop :=
  (∀ (make : Bool) (len : EventLength) (by0 by1 : Byte),
    let w := (Record.key make len by0 by1).word
    (w.extractLsb' 24 8 : Byte) = 0x81#8 ∧ (w.extractLsb' 0 8 : Byte) = by0 ∧
      (w.extractLsb' 8 8 : Byte) = by1 ∧ w.getLsbD 16 = make ∧
      w.getLsbD 17 = decide (len = .two) ∧ (w.extractLsb' 18 6 : BitVec 6) = 0#6) ∧
  (Record.key true .one 0x1E#8 0x00#8).word = 0x8101001E#32 ∧
  ∀ (ch : RecordChannel) (kind : ErrorKind),
    let w := (Record.discard ch kind).word
    w = 0x84000000#32 ||| ch.number.setWidth 32 <<< 8 ||| kind.code.setWidth 32 ∧
      (w.extractLsb' 0 8 : Byte) = kind.code ∧ (w.extractLsb' 8 2 : BitVec 2) = ch.number ∧
      (w.extractLsb' 10 14 : BitVec 14) = 0#14 ∧ (w.extractLsb' 24 8 : Byte) = 0x84#8

/-- A consumer reads every record back from its word, and no other word is a record. -/
def Obligations.RecordsReadBack : Prop :=
  (∀ r : Record, recordOf r.word = some r) ∧ ∀ w r, recordOf w = some r → r.word = w

/-- R94 and R95: every field of the decoded packet is a function of its three bytes. The premise is that
`DELTA_WIDTH` has room for the 9 bits that R94 assembles; its default is 9. -/
def Obligations.PacketFieldsFromBytes : Prop :=
  ∀ (p : Config.Params) (b0 b1 b2 : Byte), 9 ≤ p.deltaWidth →
    let m := mousePacketOf p b0 b1 b2
    m.byte0 = b0 ∧ m.byte1 = b1 ∧ m.byte2 = b2 ∧
      m.buttons = ⟨b0.getLsbD p.lbBit, b0.getLsbD p.rbBit, b0.getLsbD p.mbBit⟩ ∧
      m.xov = b0.getLsbD p.xovBit ∧ m.yov = b0.getLsbD p.yovBit ∧
      m.deltaX = b1.toNat - 256 * (b0.getLsbD p.xsignBit).toNat ∧
      m.deltaY = b2.toNat - 256 * (b0.getLsbD p.ysignBit).toNat ∧
      -256 ≤ m.deltaX ∧ m.deltaX ≤ 255 ∧ -256 ≤ m.deltaY ∧ m.deltaY ≤ 255

/-! ## The step, reset, and the host's side -/

/-- A step runs the operation that the word at the head of the inputs decodes to, and uses that word
up. -/
def Obligations.StepRunsDecodedOperation : Prop :=
  ∀ (s : State) (v : Nat) (rest : List Input) (i : Instr),
    s.inputs = .word v :: rest → decodeCommand s.config v = .ok i →
      step s = exec i { s with inputs := rest }

/-- With nothing presented the block waits and keeps all its state. The MODEL's choice of a waiting
step (log 1), on R296: "all state survives idleness". -/
def Obligations.IdleStepKeepsState : Prop :=
  ∀ s : State, s.inputs = [] → step s = .next s

/-- R320: the registers and the output stream after reset. -/
def Obligations.ResetRegisters : Prop :=
  let s := State.reset
  s.sub = 0b00#2 ∧ s.kbdPending = false ∧ s.kbdPrefix = 0#8 ∧ s.kbdLast = 0#8 ∧
    s.mouseSlot.value = 0#2 ∧ s.mouseB0 = 0#8 ∧ s.mouseB1 = 0#8 ∧ s.mouseB2 = 0#8 ∧
    s.mouseXS = false ∧ s.mouseYS = false ∧ s.mouseDX = 0 ∧ s.mouseDY = 0 ∧
    s.gestState = .idle ∧ s.xSum = 0 ∧ s.ySum = 0 ∧ s.gestXLen = 0 ∧ s.gestTol = 0 ∧
    s.out = []

/-- A reset that the host presents puts every register and the output stream in R320's state, from
every state. That it arrives as an input between two operations, and leaves what the host and the
environment have still to give, is the MODEL's choice (log 2); so is that it keeps the parameters
(log 8). -/
def Obligations.ResetInputRestoresRegisters : Prop :=
  ∀ (s : State) (rest : List Input), s.inputs = .reset :: rest →
    step s = .next
      { State.reset with
        inputs := rest, statusIn := s.statusIn, dataIn := s.dataIn, portReads := s.portReads,
        config := s.config }

/-- R336: every operation finishes, within the port reads its drains may make, and no step of the
block stops, whatever the state, the input and the environment's answers. -/
def Obligations.EveryOperationFinishes : Prop :=
  (∀ (i : Instr) (s : State), ∃ t reads,
    exec i s = .next t ∧ t.portReads = s.portReads ++ reads ∧
      reads.length ≤ portReadBound s.config i) ∧
  (∀ (p : Config.Params) (ch : Channel) (s : State), ∃ reads,
    (drain p ch s).2.portReads = s.portReads ++ reads ∧ reads.length ≤ p.pollBudget + 1) ∧
  ∀ s : State, ∃ t, step s = .next t

/-- No operation removes or changes a record already on the output stream, touches what the host has
still to present, or puts back an answer of the environment. -/
def Obligations.OutputOnlyGrows : Prop :=
  ∀ (i : Instr) (s t : State), exec i s = .next t →
    (∃ rs, t.out = s.out ++ rs) ∧ t.inputs = s.inputs ∧
      (∃ n, t.statusIn = s.statusIn.drop n) ∧ ∃ n, t.dataIn = s.dataIn.drop n

/-! ## NOP and subscription -/

/-- R260: NOP, the zero word, has no effect; any operand bit makes its word illegal. -/
def Obligations.NopHasNoEffect : Prop :=
  decode 0x00000000#32 = .ok .nop ∧ (∀ s : State, exec .nop s = .next s) ∧
    ∀ w : Word, opcodeOf w = 0x00#8 → w ≠ 0x00000000#32 → ∃ reason, decode w = .error reason

/-- R262: SUB sets the one bit of its channel. -/
def Obligations.SubSetsItsBit : Prop :=
  decode 0x01000000#32 = .ok (.sub .kbd) ∧ decode 0x01000001#32 = .ok (.sub .mouse) ∧
    (∀ s : State, exec (.sub .kbd) s = .next { s with sub := s.sub ||| 0b01#2 }) ∧
    ∀ s : State, exec (.sub .mouse) s = .next { s with sub := s.sub ||| 0b10#2 }

/-- R263: UNSUB clears the one bit of its channel. -/
def Obligations.UnsubClearsItsBit : Prop :=
  decode 0x02000000#32 = .ok (.unsub .kbd) ∧ decode 0x02000001#32 = .ok (.unsub .mouse) ∧
    (∀ s : State, exec (.unsub .kbd) s = .next { s with sub := s.sub &&& 0b10#2 }) ∧
    ∀ s : State, exec (.unsub .mouse) s = .next { s with sub := s.sub &&& 0b01#2 }

/-- R264: SUB and UNSUB are idempotent and write nothing but their bit of `SUB`; an UNSUB followed by
a SUB changes no register but `SUB`. -/
def Obligations.SubscriptionIsIdempotent : Prop :=
  ∀ (ch : Channel) (s : State),
    (∃ v, exec (.sub ch) s = .next { s with sub := v } ∧
      exec (.sub ch) { s with sub := v } = .next { s with sub := v } ∧
      ∀ c, c ≠ ch → v.getLsbD (channelBit c) = s.sub.getLsbD (channelBit c)) ∧
    (∃ v, exec (.unsub ch) s = .next { s with sub := v } ∧
      exec (.unsub ch) { s with sub := v } = .next { s with sub := v } ∧
      ∀ c, c ≠ ch → v.getLsbD (channelBit c) = s.sub.getLsbD (channelBit c)) ∧
    ∃ v, execAll [.unsub ch, .sub ch] s = .next { s with sub := v }

/-- Only SUB and UNSUB write `SUB`, and only IRQ reads it: every other operation does the same whatever
`SUB` holds (R33; KBD_INT and MOUSE_INT "whether or not" it is set, R140, R175). -/
def Obligations.SubReadOnlyByIrq : Prop :=
  (∀ (i : Instr) (s t : State), exec i s = .next t → t.sub ≠ s.sub →
    ∃ ch, i = .sub ch ∨ i = .unsub ch) ∧
  ∀ (i : Instr) (s t : State) (v : BitVec 2), (∀ m, i ≠ .irq m) → (∀ ch, i ≠ .sub ch) →
    (∀ ch, i ≠ .unsub ch) → exec i s = .next t →
      exec i { s with sub := v } = .next { t with sub := v }

/-! ## IRQ -/

/-- R266: each handler runs exactly when its bit fired and its channel is subscribed, the keyboard's
first, and an error of the first does not stop the second. -/
def Obligations.IrqRunsSubscribedHandlers : Prop :=
  (∀ m : Byte, decode (0x03000000#32 ||| m.setWidth 32) = .ok (.irq m)) ∧
  ∀ (m : Byte) (s : State), ∃ t u,
    (if m.getLsbD s.config.irqBitKbd = true ∧ s.sub.getLsbD 0 = true then
        exec .kbdInt s = .next t
      else t = s) ∧
    (if m.getLsbD s.config.irqBitMouse = true ∧ s.sub.getLsbD 1 = true then
        exec .mouseInt t = .next u
      else u = t) ∧
    exec (.irq m) s = .next u

/-- R267: the keyboard handler runs to completion before the mouse handler, and all its records come
before the mouse handler's. -/
def Obligations.IrqKeyboardRecordsFirst : Prop :=
  ∀ (m : Byte) (s : State), m.getLsbD s.config.irqBitKbd = true →
    m.getLsbD s.config.irqBitMouse = true → s.sub = 0b11#2 →
    ∃ (t u : State) (ks ms : List Record),
      exec .kbdInt s = .next t ∧ exec .mouseInt t = .next u ∧ exec (.irq m) s = .next u ∧
      t.out = s.out ++ ks.map Record.word ∧ u.out = t.out ++ ms.map Record.word ∧
      (∀ r ∈ ks, isKbdRecord r = true) ∧ (∀ r ∈ ms, isMouseRecord r = true) ∧
      ks.length ≤ 1 ∧ ms.length ≤ 2

/-- R268: a fired bit whose channel is not subscribed runs no handler and emits no record; the bits of
the mask other than the two channels' are ignored; `IRQ 0x00` has no effect. -/
def Obligations.IrqIgnoresOtherBits : Prop :=
  (∀ (m : Byte) (s : State),
    (m.getLsbD s.config.irqBitKbd = true → s.sub.getLsbD 0 = false) →
    (m.getLsbD s.config.irqBitMouse = true → s.sub.getLsbD 1 = false) →
      exec (.irq m) s = .next s) ∧
  (∀ (m m' : Byte) (s : State),
    (s.sub.getLsbD 0 = true →
      m'.getLsbD s.config.irqBitKbd = m.getLsbD s.config.irqBitKbd) →
    (s.sub.getLsbD 1 = true →
      m'.getLsbD s.config.irqBitMouse = m.getLsbD s.config.irqBitMouse) →
      exec (.irq m') s = exec (.irq m) s) ∧
  (∀ (m : Byte) (s : State),
    exec (.irq m) s =
      exec (.irq (m &&& (1#8 <<< s.config.irqBitKbd ||| 1#8 <<< s.config.irqBitMouse))) s) ∧
  ∀ s : State, exec (.irq 0x00#8) s = .next s

/-- R269: one IRQ takes at most one data byte for the keyboard handler and at most one for the mouse
handler, each after at most `POLL_BUDGET` samples, and the answers it does not take wait. -/
def Obligations.OneDataByteForEachHandler : Prop :=
  ∀ (m : Byte) (s : State), ∃ (t u : State) (ks kd ms md : Nat),
    (exec .kbdInt s = .next t ∨ t = s) ∧ (exec .mouseInt t = .next u ∨ u = t) ∧
    exec (.irq m) s = .next u ∧
    ks ≤ s.config.pollBudget ∧ kd ≤ 1 ∧ ms ≤ s.config.pollBudget ∧ md ≤ 1 ∧
    t.portReads = s.portReads ++ List.replicate ks s.config.statusPort ++
      List.replicate kd s.config.dataPort ∧
    t.statusIn = s.statusIn.drop ks ∧ t.dataIn = s.dataIn.drop kd ∧
    u.portReads = t.portReads ++ List.replicate ms s.config.statusPort ++
      List.replicate md s.config.dataPort ∧
    u.statusIn = t.statusIn.drop ms ∧ u.dataIn = t.dataIn.drop md

/-! ## The drain -/

/-- R131 and R133, for every parameters with a poll budget of at least 1: a drain reads the status port
`k` times, `1 ≤ k ≤ POLL_BUDGET`, `k` being one more than the index of the first sample with
output-buffer-full, and then the data port exactly once; or, when no sample has it, `POLL_BUDGET`
times, and the data port not at all. -/
def Obligations.DrainReadsPorts : Prop :=
  ∀ (p : Config.Params) (ch : Channel) (s : State), 1 ≤ p.pollBudget →
    (∃ k, k < p.pollBudget ∧ firstFull p s k ∧
      (drain p ch s).2.portReads =
        s.portReads ++ List.replicate (k + 1) p.statusPort ++ [p.dataPort]) ∨
    (neverFull p s ∧
      (drain p ch s).2.portReads = s.portReads ++ List.replicate p.pollBudget p.statusPort)

/-- R136: when no sample shows output-buffer-full, both handlers report PollTimeout for their channel,
read no data byte and write no register. -/
def Obligations.PollTimeoutReadsNoData : Prop :=
  ∀ s : State, let p := s.config
    neverFull p s →
    exec .kbdInt s = .next
      { s with
        statusIn := s.statusIn.drop p.pollBudget,
        portReads := s.portReads ++ List.replicate p.pollBudget p.statusPort,
        out := s.out ++ [0x84000001#32] } ∧
    exec .mouseInt s = .next
      { s with
        statusIn := s.statusIn.drop p.pollBudget,
        portReads := s.portReads ++ List.replicate p.pollBudget p.statusPort,
        out := s.out ++ [0x84000101#32] }

/-- A keyboard byte whose sample has none of the three error bits is written to `KBD_LAST` and handed
to the reassembler, as KBD_REASM of it would be. -/
def Obligations.KbdIntHandsOnGoodByte : Prop :=
  ∀ (s : State) (k : Nat), let p := s.config
    firstFull p s k →
    (statusAt p s k).getLsbD p.stParity = false → (statusAt p s k).getLsbD p.stTimeout = false →
    (statusAt p s k).getLsbD p.stAux = false →
    ∃ t,
      exec (.kbdReasm (dataAt p s (k + 1)))
        { s with
          kbdLast := dataAt p s (k + 1),
          statusIn := s.statusIn.drop (k + 1), dataIn := s.dataIn.drop 1,
          portReads := s.portReads ++ List.replicate (k + 1) p.statusPort ++ [p.dataPort] } = .next t ∧
      exec .kbdInt s = .next t

/-- R134 and R135: a keyboard byte whose sample has an error bit is discarded: `KBD_LAST` takes it, one
DISCARD with the first kind in the order parity, controller timeout, wrong origin is emitted, and
nothing else is written. -/
def Obligations.KbdIntDiscardsBadByte : Prop :=
  ∀ (s : State) (k : Nat), let p := s.config
    firstFull p s k →
    ((statusAt p s k).getLsbD p.stParity = true ∨ (statusAt p s k).getLsbD p.stTimeout = true ∨
      (statusAt p s k).getLsbD p.stAux = true) →
    exec .kbdInt s = .next
      { s with
        kbdLast := dataAt p s (k + 1),
        statusIn := s.statusIn.drop (k + 1), dataIn := s.dataIn.drop 1,
        portReads := s.portReads ++ List.replicate (k + 1) p.statusPort ++ [p.dataPort],
        out := s.out ++
          [if (statusAt p s k).getLsbD p.stParity then 0x84000002#32
            else if (statusAt p s k).getLsbD p.stTimeout then 0x84000003#32 else 0x84000004#32] }

/-- A mouse byte whose sample has neither error bit and has the auxiliary-origin bit is handed to the
packet reassembler, as MOUSE_REASM of it would be. -/
def Obligations.MouseIntHandsOnGoodByte : Prop :=
  ∀ (s : State) (k : Nat), let p := s.config
    firstFull p s k →
    (statusAt p s k).getLsbD p.stParity = false → (statusAt p s k).getLsbD p.stTimeout = false →
    (statusAt p s k).getLsbD p.stAux = true →
    ∃ t,
      exec (.mouseReasm (dataAt p s (k + 1)))
        { s with
          statusIn := s.statusIn.drop (k + 1), dataIn := s.dataIn.drop 1,
          portReads := s.portReads ++ List.replicate (k + 1) p.statusPort ++ [p.dataPort] } = .next t ∧
      exec .mouseInt s = .next t

/-- R173 and R174: a mouse byte that fails validation is lost, one DISCARD with the first kind in the
order parity, controller timeout, wrong origin is emitted, and no register is written; a poll
timeout writes none either. -/
def Obligations.MouseIntDiscardsBadByte : Prop :=
  (∀ (s : State) (k : Nat), let p := s.config
    firstFull p s k →
    ((statusAt p s k).getLsbD p.stParity = true ∨ (statusAt p s k).getLsbD p.stTimeout = true ∨
      (statusAt p s k).getLsbD p.stAux = false) →
    exec .mouseInt s = .next
      { s with
        statusIn := s.statusIn.drop (k + 1), dataIn := s.dataIn.drop 1,
        portReads := s.portReads ++ List.replicate (k + 1) p.statusPort ++ [p.dataPort],
        out := s.out ++
          [if (statusAt p s k).getLsbD p.stParity then 0x84000102#32
            else if (statusAt p s k).getLsbD p.stTimeout then 0x84000103#32 else 0x84000104#32] }) ∧
  ∀ s : State, let p := s.config
    neverFull p s → exec .mouseInt s = .next
    { s with
      statusIn := s.statusIn.drop p.pollBudget,
      portReads := s.portReads ++ List.replicate p.pollBudget p.statusPort,
      out := s.out ++ [0x84000101#32] }

/-- R138: a failed keyboard drain keeps the pending flag and the prefix; a prefix that is pending pairs
with the byte of the next drain that validates, the `EXT_PREFIX` of a new prefix apart (R146). -/
def Obligations.PrefixSurvivesFailedDrain : Prop :=
  (∀ (s s' : State) (kind : ErrorKind), drain s.config .kbd s = (.error kind, s') →
    ∃ t, exec .kbdInt s = .next t ∧ t.kbdPending = s.kbdPending ∧ t.kbdPrefix = s.kbdPrefix) ∧
  ∀ (s s' : State) (b : Byte), s.kbdPending = true → drain s.config .kbd s = (.ok b, s') →
    b ≠ s.config.extPrefix → ∃ t, exec .kbdInt s = .next t ∧ t.kbdPending = false ∧
      t.out = s.out ++ [(Record.key (!b.getLsbD s.config.breakBit) .two s.kbdPrefix b).word]

/-- R137: `KBD_LAST` takes the byte of every keyboard data read, whether or not the validation passes,
and no operation writes it but a keyboard drain. -/
def Obligations.KbdLastIsLastByteRead : Prop :=
  (∀ (s : State) (k : Nat), firstFull s.config s k →
    ∃ t, exec .kbdInt s = .next t ∧ t.kbdLast = dataAt s.config s (k + 1)) ∧
  ∀ (i : Instr) (s t : State), exec i s = .next t → t.kbdLast ≠ s.kbdLast →
    i = .kbdInt ∨ ∃ m, i = .irq m ∧ m.getLsbD s.config.irqBitKbd = true ∧ s.sub.getLsbD 0 = true

/-- What the environment answers in the status bits that the block ignores changes nothing: two runs
of a handler whose samples agree in output-buffer-full, and in the three error bits wherever it is
set, end alike but for the samples left over (30_encoding section 1, 41_keyboard section 1). -/
def Obligations.IgnoredStatusBitsDoNotMatter : Prop :=
  ∀ (i : Instr) (s : State) (answers : List Byte),
    List.Forall₂ (fun a b : Byte =>
      a.getLsbD s.config.stObf = b.getLsbD s.config.stObf ∧
        (a.getLsbD s.config.stObf = true →
          a.getLsbD s.config.stAux = b.getLsbD s.config.stAux ∧
          a.getLsbD s.config.stTimeout = b.getLsbD s.config.stTimeout ∧
          a.getLsbD s.config.stParity = b.getLsbD s.config.stParity)) s.statusIn answers →
    ∃ t rest, exec i s = .next t ∧
      exec i { s with statusIn := answers } = .next { t with statusIn := rest }

/-! ## The keyboard reassembler -/

/-- R144: the scancode reassembler, on every byte and in every state. -/
def Obligations.KbdReasmPairsPrefix : Prop :=
  (∀ b : Byte, decode (0x11000000#32 ||| b.setWidth 32) = .ok (.kbdReasm b)) ∧
  ∀ (b : Byte) (s : State),
    let make := !b.getLsbD s.config.breakBit
    exec (.kbdReasm b) s = .next
      (if b = s.config.extPrefix then { s with kbdPrefix := b, kbdPending := true }
        else if s.kbdPending then
          { s with
            kbdPending := false, out := s.out ++ [(Record.key make .two s.kbdPrefix b).word] }
        else { s with out := s.out ++ [(Record.key make .one b 0x00#8).word] })

/-- R146: a prefix while one is pending is stored again and emits nothing, so two prefixes and another
byte give exactly one event; with the default parameters, 0xE0 0xE0 0x48 gives 0x810348E0. -/
def Obligations.RepeatedPrefixRearms : Prop :=
  ∀ s : State, s.kbdPending = true →
    let e := s.config.extPrefix
    (∃ t, exec (.kbdReasm e) s = .next t ∧ t.kbdPending = true ∧ t.kbdPrefix = e ∧
      t.out = s.out) ∧
    (∀ b : Byte, b ≠ e → ∃ u, execAll [.kbdReasm e, .kbdReasm e, .kbdReasm b] s = .next u ∧
      u.kbdPending = false ∧
      u.out = s.out ++ [(Record.key (!b.getLsbD s.config.breakBit) .two e b).word]) ∧
    (s.config = params → ∃ u,
      execAll [.kbdReasm 0xE0#8, .kbdReasm 0xE0#8, .kbdReasm 0x48#8] s = .next u ∧
      u.out = s.out ++ [0x810348E0#32])

/-- R149: over any sequence of bytes, each byte other than the prefix gives exactly one KEY record and
each prefix none, and a record has length 2 exactly when the byte just before was the prefix. -/
def Obligations.KeyRecordsCountBytes : Prop :=
  ∀ (bs : List Byte) (s : State), (s.kbdPending = true → s.kbdPrefix = s.config.extPrefix) →
    ∃ t, execAll (bs.map .kbdReasm) s = .next t ∧
      t.out = s.out ++ (keyEvents s.config s.kbdPending bs).map Record.word ∧
      (keyEvents s.config s.kbdPending bs).length = bs.countP (· ≠ s.config.extPrefix)

/-- R150: no run of operations that hand no byte to the scancode reassembler changes the keyboard
registers. -/
def Obligations.KeyboardStateSurvivesOtherOps : Prop :=
  ∀ (is : List Instr) (s : State), (∀ i ∈ is, touchesKeyboard s.config i = false) →
    ∃ t, execAll is s = .next t ∧ sameKeyboard s t

/-- R141: the three outcomes of one KBD_INT, told apart by the drain and its byte. -/
def Obligations.KbdIntOutcomes : Prop :=
  ∀ s : State, ∃ t, exec .kbdInt s = .next t ∧
    match (drain s.config .kbd s).1 with
    | .ok d =>
      if d = s.config.extPrefix then t.out = s.out
      else ∃ make len by0 by1, t.out = s.out ++ [(Record.key make len by0 by1).word]
    | .error kind => t.out = s.out ++ [(Record.discard .kbd kind).word]

/-! ## The packet reassembler -/

/-- R181: slot 0 on a byte with the sync bit set. -/
def Obligations.SlotZeroTakesSyncByte : Prop :=
  ∀ (b : Byte) (s : State), s.mouseSlot = .slot0 → b.getLsbD s.config.syncBit = true →
    exec (.mouseReasm b) s = .next
      { s with
        mouseB0 := b, mouseXS := b.getLsbD s.config.xsignBit,
        mouseYS := b.getLsbD s.config.ysignBit, mouseSlot := .slot1 }

/-- R184: slot 0 on a byte with the sync bit clear: SyncError, no register written. -/
def Obligations.SlotZeroRejectsUnsyncedByte : Prop :=
  ∀ (b : Byte) (s : State), s.mouseSlot = .slot0 → b.getLsbD s.config.syncBit = false →
    exec (.mouseReasm b) s = .next { s with out := s.out ++ [0x84000105#32] }

/-- R182: slot 1 takes any byte. The premise is that `DELTA_WIDTH` has room for R94's 9 bits. -/
def Obligations.SlotOneTakesDeltaX : Prop :=
  ∀ (b : Byte) (s : State), s.mouseSlot = .slot1 → 9 ≤ s.config.deltaWidth →
    exec (.mouseReasm b) s = .next
      { s with
        mouseB1 := b, mouseDX := b.toNat - 256 * s.mouseXS.toNat, mouseSlot := .slot2 }

/-- R183 and R185's order: slot 2 takes any byte, the PACKET record comes first, and the packet then
steps the gesture as GEST_STEP of its buttons and deltas would. The premise is that `DELTA_WIDTH` has
room for R94's 9 bits. -/
def Obligations.SlotTwoCompletesPacket : Prop :=
  ∀ (b : Byte) (s : State), s.mouseSlot = .slot2 → 9 ≤ s.config.deltaWidth → ∃ t : State,
    exec (.gestStep (s.mouseB0.getLsbD s.config.lbBit) (s.mouseB0.getLsbD s.config.rbBit)
      (s.mouseB0.getLsbD s.config.mbBit) s.mouseDX (b.toNat - 256 * s.mouseYS.toNat))
      { s with
        mouseB2 := b, mouseDY := b.toNat - 256 * s.mouseYS.toNat, mouseSlot := .slot0,
        out := s.out ++ [(Record.packet s.mouseB0 s.mouseB1 b).word] } = .next t ∧
    exec (.mouseReasm b) s = .next t

/-- R186: from slot 0, three bytes whose first has the sync bit clear complete no packet, and the slot is
0 after them exactly when all three have it clear; three bytes whose first has it set give no
record after the first two and exactly one packet after the third, with the deltas of R94 where
`DELTA_WIDTH` has room for their 9 bits. -/
def Obligations.ResynchronizationLaw : Prop :=
  ∀ (b0 b1 b2 : Byte) (s : State), s.mouseSlot = .slot0 →
    let sync := s.config.syncBit
    (b0.getLsbD sync = false → ∃ t n,
      execAll [.mouseReasm b0, .mouseReasm b1, .mouseReasm b2] s = .next t ∧
      t.out = s.out ++ List.replicate n 0x84000105#32 ∧
      (t.mouseSlot = .slot0 ↔ b1.getLsbD sync = false ∧ b2.getLsbD sync = false)) ∧
    (b0.getLsbD sync = true → ∃ t1 t2 t3,
      exec (.mouseReasm b0) s = .next t1 ∧ exec (.mouseReasm b1) t1 = .next t2 ∧
      exec (.mouseReasm b2) t2 = .next t3 ∧ t1.out = s.out ∧ t2.out = s.out ∧
      (t3.out = s.out ++ [(Record.packet b0 b1 b2).word] ∨
        t3.out = s.out ++ [(Record.packet b0 b1 b2).word, 0x83000000#32]) ∧
      (9 ≤ s.config.deltaWidth →
        t3.mouseDX = b1.toNat - 256 * (b0.getLsbD s.config.xsignBit).toNat ∧
        t3.mouseDY = b2.toNat - 256 * (b0.getLsbD s.config.ysignBit).toNat) ∧
      t3.mouseSlot = .slot0)

/-- R176: the outcomes of one MOUSE_INT, told apart by the drain, the slot and the byte's sync bit. -/
def Obligations.MouseIntOutcomes : Prop :=
  ∀ s : State, ∃ t, exec .mouseInt s = .next t ∧
    match (drain s.config .mouse s).1, s.mouseSlot with
    | .error kind, _ => t.out = s.out ++ [(Record.discard .mouse kind).word]
    | .ok d, .slot0 =>
      if d.getLsbD s.config.syncBit then t.out = s.out else t.out = s.out ++ [0x84000105#32]
    | .ok _, .slot1 => t.out = s.out
    | .ok d, .slot2 =>
      t.out = s.out ++ [(Record.packet s.mouseB0 s.mouseB1 d).word] ∨
        t.out = s.out ++ [(Record.packet s.mouseB0 s.mouseB1 d).word, 0x83000000#32]

/-- R189: no run of operations that hand no byte to the packet reassembler changes the mouse
registers. -/
def Obligations.MouseStateSurvivesOtherOps : Prop :=
  ∀ (is : List Instr) (s : State), (∀ i ∈ is, touchesMouse s.config i = false) →
    ∃ t, execAll is s = .next t ∧ sameMouse s t

/-- R188 and R94: the overflow bits of byte 0 change neither the deltas nor the gesture: two runs of a
packet whose first bytes differ only in those two bits end alike but for `MOUSE_B0` and the PACKET
record. The premise is R9's constraint that the bits of one byte are distinct. -/
def Obligations.OverflowBitsOnlyRecorded : Prop :=
  ∀ (b0 b0' b1 b2 : Byte) (s : State), s.config.wellFormed = true → s.mouseSlot = .slot0 →
    b0.getLsbD s.config.syncBit = true →
    (∀ n, n ≠ s.config.xovBit → n ≠ s.config.yovBit → b0'.getLsbD n = b0.getLsbD n) → ∃ t done,
      execAll [.mouseReasm b0, .mouseReasm b1, .mouseReasm b2] s = .next t ∧
      t.out = s.out ++ (Record.packet b0 b1 b2).word :: done ∧
      execAll [.mouseReasm b0', .mouseReasm b1, .mouseReasm b2] s = .next
        { t with
          mouseB0 := b0', out := s.out ++ (Record.packet b0' b1 b2).word :: done }

/-! ## The gesture FSM -/

/-- R233: GEST_STEP is the transition table, cell by cell, from every state, and changes nothing that
the table's cell does not name. -/
def Obligations.GestStepFollowsTable : Prop :=
  ∀ (lb rb mb : Bool) (dx dy : Int) (s : State),
    exec (.gestStep lb rb mb dx dy) s = .next (gestureTable lb rb mb dx dy s)

/-- R211: a step that changes the state zeroes both sums, and one that keeps it outside a stroke keeps
them. -/
def Obligations.TransitionsZeroSums : Prop :=
  ∀ (lb rb mb : Bool) (dx dy : Int) (s : State), ∃ t,
    exec (.gestStep lb rb mb dx dy) s = .next t ∧
    (t.gestState ≠ s.gestState → t.xSum = 0 ∧ t.ySum = 0) ∧
    (t.gestState = s.gestState → s.gestState ≠ .stroke1 → s.gestState ≠ .stroke2 →
      t.xSum = s.xSum ∧ t.ySum = s.ySum)

/-- R216 and R223 on integers, where no addition leaves the range of `SUM_WIDTH` bits: each sum is the
exact sum, clamped at 0 on one side. -/
def Obligations.StrokeAccumulatesExactly : Prop :=
  ∀ (dx dy : Int) (s : State),
    fitsSigned s.config.sumWidth (s.xSum + dx) → fitsSigned s.config.sumWidth (s.ySum + dy) →
    -(s.gestTol : Int) ≤ dx →
    (s.gestState = .stroke1 → -(s.gestTol : Int) ≤ dy →
      exec (.gestStep true false false dx dy) s =
        .next { s with xSum := max 0 (s.xSum + dx), ySum := max 0 (s.ySum + dy) }) ∧
    (s.gestState = .stroke2 → dy ≤ s.gestTol →
      exec (.gestStep false true false dx dy) s =
        .next { s with xSum := max 0 (s.xSum + dx), ySum := min 0 (s.ySum + dy) })

/-- R230: an addition wraps to `SUM_WIDTH` bits before the clamp, so one past the range makes the sum 0.
The last two clauses need sums that fit their registers, which every step keeps
(`EveryStepKeepsWidths`), and a width of at least 9, since a delta past the end of a shorter sum can
come round to the same sign; the default is 32. -/
def Obligations.SumOverflowClampsToZero : Prop :=
  ∀ (dx dy : Int) (s : State), -256 ≤ dx → dx ≤ 255 → -256 ≤ dy → dy ≤ 255 →
    -(s.gestTol : Int) ≤ dx →
    (s.gestState = .stroke1 → -(s.gestTol : Int) ≤ dy → ∃ x y : Int,
      exec (.gestStep true false false dx dy) s = .next { s with xSum := x, ySum := y } ∧
      x = max 0 (wrapped s.config.sumWidth (s.xSum + dx)) ∧
      y = max 0 (wrapped s.config.sumWidth (s.ySum + dy)) ∧
      (RegistersFit s → 9 ≤ s.config.sumWidth →
        (2 ^ s.config.sumWidth ≤ 2 * (s.xSum + dx) → x = 0) ∧
        (2 ^ s.config.sumWidth ≤ 2 * (s.ySum + dy) → y = 0))) ∧
    (s.gestState = .stroke2 → dy ≤ s.gestTol → ∃ x y : Int,
      exec (.gestStep false true false dx dy) s = .next { s with xSum := x, ySum := y } ∧
      x = max 0 (wrapped s.config.sumWidth (s.xSum + dx)) ∧
      y = min 0 (wrapped s.config.sumWidth (s.ySum + dy)) ∧
      (RegistersFit s → 9 ≤ s.config.sumWidth →
        (2 ^ s.config.sumWidth ≤ 2 * (s.xSum + dx) → x = 0) ∧
        (2 * (s.ySum + dy) < -2 ^ s.config.sumWidth → y = 0)))

/-- R226: a step in COMPLETE changes nothing and emits nothing, and only GEST_RESET and block reset
leave COMPLETE. -/
def Obligations.CompleteIsTerminal : Prop :=
  (∀ (lb rb mb : Bool) (dx dy : Int) (s : State), s.gestState = .complete →
    exec (.gestStep lb rb mb dx dy) s = .next s) ∧
  ∀ s t : State, s.gestState = .complete → step s = .next t → t.gestState ≠ .complete →
    ∃ rest, s.inputs = .reset :: rest ∨
      ∃ v, s.inputs = .word v :: rest ∧ decodeCommand s.config v = .ok .gestReset

/-- R227: an operation emits GESTURE_DONE exactly when it enters COMPLETE, once, and as its last
record. -/
def Obligations.GestureDoneOnceOnCompletion : Prop :=
  ∀ (i : Instr) (s t : State), exec i s = .next t → ∃ rs,
    t.out = s.out ++ rs ∧ rs.count 0x83000000#32 ≤ 1 ∧
    (0x83000000#32 ∈ rs ↔ s.gestState ≠ .complete ∧ t.gestState = .complete) ∧
    (0x83000000#32 ∈ rs → rs.getLast? = some 0x83000000#32)

/-- R231: in every state but COMPLETE, a packet with the middle button leaves IDLE with both sums 0.
IDLE itself keeps its sums, so the premise is the invariant that they are 0 there. -/
def Obligations.MiddleButtonReturnsToIdle : Prop :=
  ∀ (lb rb : Bool) (dx dy : Int) (s : State), Invariant s →
    (s.gestState ≠ .complete →
      exec (.gestStep lb rb true dx dy) s =
        .next { s with gestState := .idle, xSum := 0, ySum := 0 }) ∧
    (s.gestState = .complete → exec (.gestStep lb rb true dx dy) s = .next s)

/-- R243: GEST_RESET, in every state. -/
def Obligations.GestResetReturnsToIdle : Prop :=
  decode 0x31000000#32 = .ok .gestReset ∧
  ∀ s : State,
    exec .gestReset s = .next { s with gestState := .idle, xSum := 0, ySum := 0 }

/-- R245: GEST_CFG writes the two parameters and nothing else. The premise is that `PARAM_WIDTH` has room
for its operands' 8 bits; its default is 8. -/
def Obligations.GestCfgWritesParameters : Prop :=
  (∀ xLen tol : Byte, decode (0x32000000#32 ||| tol.setWidth 32 <<< 8 ||| xLen.setWidth 32) =
    .ok (.gestCfg xLen tol)) ∧
  ∀ (xLen tol : Byte) (s : State), 8 ≤ s.config.paramWidth →
    exec (.gestCfg xLen tol) s = .next { s with gestXLen := xLen.toNat, gestTol := tol.toNat }

/-- Who writes the gesture registers: the thresholds only GEST_CFG, the state and the sums only
GEST_STEP, GEST_RESET and an operation that completes a packet, which emits its PACKET record
(10_state section 5). -/
def Obligations.GestureStateHasFewWriters : Prop :=
  ∀ (i : Instr) (s t : State), exec i s = .next t →
    ((∀ xLen tol, i ≠ .gestCfg xLen tol) → sameParams s t) ∧
    ((∀ lb rb mb dx dy, i ≠ .gestStep lb rb mb dx dy) → i ≠ .gestReset →
      ¬ sameGesture s t →
        touchesMouse s.config i = true ∧ s.mouseSlot = .slot2 ∧
          ∃ b0 b1 b2 : Byte, (Record.packet b0 b1 b2).word ∈ t.out.drop s.out.length)

/-! ## Invariants -/

/-- The seven invariants of R49 hold at reset, every register fits its width there, and the default
parameters meet R9's constraints. -/
def Obligations.ResetMeetsInvariants : Prop :=
  Invariant State.reset ∧ RegistersFit State.reset ∧ State.reset.config.wellFormed = true

/-- Every step keeps the seven invariants of R49, from every state that has them. -/
def Obligations.EveryStepKeepsInvariants : Prop :=
  ∀ s t : State, Invariant s → step s = .next t → Invariant t

/-- R49: the seven invariants hold in every state that runs from reset reach. -/
def Obligations.ReachableStatesMeetInvariants : Prop :=
  ∀ s : State, Reachable s → Invariant s

/-- Every step keeps the output stream to records the rules produce: the tags of R109 with their
layouts, R280's kinds on their channels and never CommandNack, KEY records of R144's form, and
packets whose first byte has its sync bit (R187). -/
def Obligations.EveryStepKeepsOutputAllowed : Prop :=
  ∀ s t : State, Invariant s → outputAllowed s → step s = .next t → outputAllowed t

/-- Every step keeps each register of a parameter's width within that width (R30, R230), from every
state in which they are, and writes none of the parameters, with or without that premise. That the
state carries the parameters, and what a register narrower than its value holds, are the MODEL's
choices (log 8, log 9). -/
def Obligations.EveryStepKeepsWidths : Prop :=
  ∀ s t : State, step s = .next t →
    t.config = s.config ∧ (RegistersFit s → RegistersFit t)
end

