-- ==== Sys2Proof/Laws/State.lean ====
section
/-! SUPPORT. What each register update does to each field of the state: one lemma per field per
update, so that no later proof unfolds a record update. -/

namespace Sys2Proof.Machine

@[simp] theorem raise_eq_emit (kind : ErrorKind) (ch : RecordChannel) (s : State) :
    raise kind ch s = emit (.discard ch kind) s := rfl

@[simp] theorem illegalOp_eq_emit (s : State) : illegalOp s = emit (.discard .ctrl .illegalOp) s :=
  rfl

@[simp] theorem recordLast_mouse (d : Byte) (s : State) : recordLast .mouse d s = s := rfl

/-! ### `emit` -/

@[simp] theorem emit_sub (r : Record) (s : State) : (emit r s).sub = s.sub := rfl
@[simp] theorem emit_kbdPending (r : Record) (s : State) : (emit r s).kbdPending = s.kbdPending :=
  rfl
@[simp] theorem emit_kbdPrefix (r : Record) (s : State) : (emit r s).kbdPrefix = s.kbdPrefix := rfl
@[simp] theorem emit_kbdLast (r : Record) (s : State) : (emit r s).kbdLast = s.kbdLast := rfl
@[simp] theorem emit_mouseSlot (r : Record) (s : State) : (emit r s).mouseSlot = s.mouseSlot := rfl
@[simp] theorem emit_mouseB0 (r : Record) (s : State) : (emit r s).mouseB0 = s.mouseB0 := rfl
@[simp] theorem emit_mouseB1 (r : Record) (s : State) : (emit r s).mouseB1 = s.mouseB1 := rfl
@[simp] theorem emit_mouseB2 (r : Record) (s : State) : (emit r s).mouseB2 = s.mouseB2 := rfl
@[simp] theorem emit_mouseXS (r : Record) (s : State) : (emit r s).mouseXS = s.mouseXS := rfl
@[simp] theorem emit_mouseYS (r : Record) (s : State) : (emit r s).mouseYS = s.mouseYS := rfl
@[simp] theorem emit_mouseDX (r : Record) (s : State) : (emit r s).mouseDX = s.mouseDX := rfl
@[simp] theorem emit_mouseDY (r : Record) (s : State) : (emit r s).mouseDY = s.mouseDY := rfl
@[simp] theorem emit_gestState (r : Record) (s : State) : (emit r s).gestState = s.gestState := rfl
@[simp] theorem emit_xSum (r : Record) (s : State) : (emit r s).xSum = s.xSum := rfl
@[simp] theorem emit_ySum (r : Record) (s : State) : (emit r s).ySum = s.ySum := rfl
@[simp] theorem emit_gestXLen (r : Record) (s : State) : (emit r s).gestXLen = s.gestXLen := rfl
@[simp] theorem emit_gestTol (r : Record) (s : State) : (emit r s).gestTol = s.gestTol := rfl
@[simp] theorem emit_out (r : Record) (s : State) : (emit r s).out = s.out ++ [r.word] := rfl
@[simp] theorem emit_inputs (r : Record) (s : State) : (emit r s).inputs = s.inputs := rfl
@[simp] theorem emit_statusIn (r : Record) (s : State) : (emit r s).statusIn = s.statusIn := rfl
@[simp] theorem emit_dataIn (r : Record) (s : State) : (emit r s).dataIn = s.dataIn := rfl
@[simp] theorem emit_portReads (r : Record) (s : State) : (emit r s).portReads = s.portReads := rfl
@[simp] theorem emit_config (r : Record) (s : State) : (emit r s).config = s.config := rfl

/-! ### `presentWord` -/

@[simp] theorem presentWord_sub (v : Nat) (s : State) : (presentWord v s).sub = s.sub := rfl
@[simp] theorem presentWord_kbdPending (v : Nat) (s : State) :
    (presentWord v s).kbdPending = s.kbdPending := rfl
@[simp] theorem presentWord_kbdPrefix (v : Nat) (s : State) :
    (presentWord v s).kbdPrefix = s.kbdPrefix := rfl
@[simp] theorem presentWord_kbdLast (v : Nat) (s : State) : (presentWord v s).kbdLast = s.kbdLast :=
  rfl
@[simp] theorem presentWord_mouseSlot (v : Nat) (s : State) :
    (presentWord v s).mouseSlot = s.mouseSlot := rfl
@[simp] theorem presentWord_mouseB0 (v : Nat) (s : State) : (presentWord v s).mouseB0 = s.mouseB0 :=
  rfl
@[simp] theorem presentWord_mouseB1 (v : Nat) (s : State) : (presentWord v s).mouseB1 = s.mouseB1 :=
  rfl
@[simp] theorem presentWord_mouseB2 (v : Nat) (s : State) : (presentWord v s).mouseB2 = s.mouseB2 :=
  rfl
@[simp] theorem presentWord_mouseXS (v : Nat) (s : State) : (presentWord v s).mouseXS = s.mouseXS :=
  rfl
@[simp] theorem presentWord_mouseYS (v : Nat) (s : State) : (presentWord v s).mouseYS = s.mouseYS :=
  rfl
@[simp] theorem presentWord_mouseDX (v : Nat) (s : State) : (presentWord v s).mouseDX = s.mouseDX :=
  rfl
@[simp] theorem presentWord_mouseDY (v : Nat) (s : State) : (presentWord v s).mouseDY = s.mouseDY :=
  rfl
@[simp] theorem presentWord_gestState (v : Nat) (s : State) :
    (presentWord v s).gestState = s.gestState := rfl
@[simp] theorem presentWord_xSum (v : Nat) (s : State) : (presentWord v s).xSum = s.xSum := rfl
@[simp] theorem presentWord_ySum (v : Nat) (s : State) : (presentWord v s).ySum = s.ySum := rfl
@[simp] theorem presentWord_gestXLen (v : Nat) (s : State) :
    (presentWord v s).gestXLen = s.gestXLen := rfl
@[simp] theorem presentWord_gestTol (v : Nat) (s : State) : (presentWord v s).gestTol = s.gestTol :=
  rfl
@[simp] theorem presentWord_out (v : Nat) (s : State) : (presentWord v s).out = s.out := rfl
@[simp] theorem presentWord_inputs (v : Nat) (s : State) :
    (presentWord v s).inputs = .word v :: s.inputs := rfl
@[simp] theorem presentWord_statusIn (v : Nat) (s : State) :
    (presentWord v s).statusIn = s.statusIn := rfl
@[simp] theorem presentWord_dataIn (v : Nat) (s : State) : (presentWord v s).dataIn = s.dataIn :=
  rfl
@[simp] theorem presentWord_portReads (v : Nat) (s : State) :
    (presentWord v s).portReads = s.portReads := rfl
@[simp] theorem presentWord_config (v : Nat) (s : State) : (presentWord v s).config = s.config :=
  rfl

/-! ### `afterRead` -/

@[simp] theorem afterReadStatus_sub (p : Config.Params) (s : State) :
    (afterRead p .status s).sub = s.sub := rfl
@[simp] theorem afterReadStatus_kbdPending (p : Config.Params) (s : State) :
    (afterRead p .status s).kbdPending = s.kbdPending := rfl
@[simp] theorem afterReadStatus_kbdPrefix (p : Config.Params) (s : State) :
    (afterRead p .status s).kbdPrefix = s.kbdPrefix := rfl
@[simp] theorem afterReadStatus_kbdLast (p : Config.Params) (s : State) :
    (afterRead p .status s).kbdLast = s.kbdLast := rfl
@[simp] theorem afterReadStatus_mouseSlot (p : Config.Params) (s : State) :
    (afterRead p .status s).mouseSlot = s.mouseSlot := rfl
@[simp] theorem afterReadStatus_mouseB0 (p : Config.Params) (s : State) :
    (afterRead p .status s).mouseB0 = s.mouseB0 := rfl
@[simp] theorem afterReadStatus_mouseB1 (p : Config.Params) (s : State) :
    (afterRead p .status s).mouseB1 = s.mouseB1 := rfl
@[simp] theorem afterReadStatus_mouseB2 (p : Config.Params) (s : State) :
    (afterRead p .status s).mouseB2 = s.mouseB2 := rfl
@[simp] theorem afterReadStatus_mouseXS (p : Config.Params) (s : State) :
    (afterRead p .status s).mouseXS = s.mouseXS := rfl
@[simp] theorem afterReadStatus_mouseYS (p : Config.Params) (s : State) :
    (afterRead p .status s).mouseYS = s.mouseYS := rfl
@[simp] theorem afterReadStatus_mouseDX (p : Config.Params) (s : State) :
    (afterRead p .status s).mouseDX = s.mouseDX := rfl
@[simp] theorem afterReadStatus_mouseDY (p : Config.Params) (s : State) :
    (afterRead p .status s).mouseDY = s.mouseDY := rfl
@[simp] theorem afterReadStatus_gestState (p : Config.Params) (s : State) :
    (afterRead p .status s).gestState = s.gestState := rfl
@[simp] theorem afterReadStatus_xSum (p : Config.Params) (s : State) :
    (afterRead p .status s).xSum = s.xSum := rfl
@[simp] theorem afterReadStatus_ySum (p : Config.Params) (s : State) :
    (afterRead p .status s).ySum = s.ySum := rfl
@[simp] theorem afterReadStatus_gestXLen (p : Config.Params) (s : State) :
    (afterRead p .status s).gestXLen = s.gestXLen := rfl
@[simp] theorem afterReadStatus_gestTol (p : Config.Params) (s : State) :
    (afterRead p .status s).gestTol = s.gestTol := rfl
@[simp] theorem afterReadStatus_out (p : Config.Params) (s : State) :
    (afterRead p .status s).out = s.out := rfl
@[simp] theorem afterReadStatus_inputs (p : Config.Params) (s : State) :
    (afterRead p .status s).inputs = s.inputs := rfl
@[simp] theorem afterReadStatus_statusIn (p : Config.Params) (s : State) :
    (afterRead p .status s).statusIn = s.statusIn.tail := rfl
@[simp] theorem afterReadStatus_dataIn (p : Config.Params) (s : State) :
    (afterRead p .status s).dataIn = s.dataIn := rfl
@[simp] theorem afterReadStatus_portReads (p : Config.Params) (s : State) :
    (afterRead p .status s).portReads = s.portReads ++ [p.statusPort] := rfl
@[simp] theorem afterReadStatus_config (p : Config.Params) (s : State) :
    (afterRead p .status s).config = s.config := rfl


@[simp] theorem afterReadData_sub (p : Config.Params) (s : State) :
    (afterRead p .data s).sub = s.sub := rfl
@[simp] theorem afterReadData_kbdPending (p : Config.Params) (s : State) :
    (afterRead p .data s).kbdPending = s.kbdPending := rfl
@[simp] theorem afterReadData_kbdPrefix (p : Config.Params) (s : State) :
    (afterRead p .data s).kbdPrefix = s.kbdPrefix := rfl
@[simp] theorem afterReadData_kbdLast (p : Config.Params) (s : State) :
    (afterRead p .data s).kbdLast = s.kbdLast := rfl
@[simp] theorem afterReadData_mouseSlot (p : Config.Params) (s : State) :
    (afterRead p .data s).mouseSlot = s.mouseSlot := rfl
@[simp] theorem afterReadData_mouseB0 (p : Config.Params) (s : State) :
    (afterRead p .data s).mouseB0 = s.mouseB0 := rfl
@[simp] theorem afterReadData_mouseB1 (p : Config.Params) (s : State) :
    (afterRead p .data s).mouseB1 = s.mouseB1 := rfl
@[simp] theorem afterReadData_mouseB2 (p : Config.Params) (s : State) :
    (afterRead p .data s).mouseB2 = s.mouseB2 := rfl
@[simp] theorem afterReadData_mouseXS (p : Config.Params) (s : State) :
    (afterRead p .data s).mouseXS = s.mouseXS := rfl
@[simp] theorem afterReadData_mouseYS (p : Config.Params) (s : State) :
    (afterRead p .data s).mouseYS = s.mouseYS := rfl
@[simp] theorem afterReadData_mouseDX (p : Config.Params) (s : State) :
    (afterRead p .data s).mouseDX = s.mouseDX := rfl
@[simp] theorem afterReadData_mouseDY (p : Config.Params) (s : State) :
    (afterRead p .data s).mouseDY = s.mouseDY := rfl
@[simp] theorem afterReadData_gestState (p : Config.Params) (s : State) :
    (afterRead p .data s).gestState = s.gestState := rfl
@[simp] theorem afterReadData_xSum (p : Config.Params) (s : State) :
    (afterRead p .data s).xSum = s.xSum := rfl
@[simp] theorem afterReadData_ySum (p : Config.Params) (s : State) :
    (afterRead p .data s).ySum = s.ySum := rfl
@[simp] theorem afterReadData_gestXLen (p : Config.Params) (s : State) :
    (afterRead p .data s).gestXLen = s.gestXLen := rfl
@[simp] theorem afterReadData_gestTol (p : Config.Params) (s : State) :
    (afterRead p .data s).gestTol = s.gestTol := rfl
@[simp] theorem afterReadData_out (p : Config.Params) (s : State) :
    (afterRead p .data s).out = s.out := rfl
@[simp] theorem afterReadData_inputs (p : Config.Params) (s : State) :
    (afterRead p .data s).inputs = s.inputs := rfl
@[simp] theorem afterReadData_statusIn (p : Config.Params) (s : State) :
    (afterRead p .data s).statusIn = s.statusIn := rfl
@[simp] theorem afterReadData_dataIn (p : Config.Params) (s : State) :
    (afterRead p .data s).dataIn = s.dataIn.tail := rfl
@[simp] theorem afterReadData_portReads (p : Config.Params) (s : State) :
    (afterRead p .data s).portReads = s.portReads ++ [p.dataPort] := rfl
@[simp] theorem afterReadData_config (p : Config.Params) (s : State) :
    (afterRead p .data s).config = s.config := rfl

/-! ### `setSub` -/

@[simp] theorem setSub_sub (ch : Channel) (s : State) :
    (setSub ch s).sub = s.sub ||| 1#2 <<< channelBit ch := rfl
@[simp] theorem setSub_kbdPending (ch : Channel) (s : State) :
    (setSub ch s).kbdPending = s.kbdPending := rfl
@[simp] theorem setSub_kbdPrefix (ch : Channel) (s : State) :
    (setSub ch s).kbdPrefix = s.kbdPrefix := rfl
@[simp] theorem setSub_kbdLast (ch : Channel) (s : State) : (setSub ch s).kbdLast = s.kbdLast := rfl
@[simp] theorem setSub_mouseSlot (ch : Channel) (s : State) :
    (setSub ch s).mouseSlot = s.mouseSlot := rfl
@[simp] theorem setSub_mouseB0 (ch : Channel) (s : State) : (setSub ch s).mouseB0 = s.mouseB0 := rfl
@[simp] theorem setSub_mouseB1 (ch : Channel) (s : State) : (setSub ch s).mouseB1 = s.mouseB1 := rfl
@[simp] theorem setSub_mouseB2 (ch : Channel) (s : State) : (setSub ch s).mouseB2 = s.mouseB2 := rfl
@[simp] theorem setSub_mouseXS (ch : Channel) (s : State) : (setSub ch s).mouseXS = s.mouseXS := rfl
@[simp] theorem setSub_mouseYS (ch : Channel) (s : State) : (setSub ch s).mouseYS = s.mouseYS := rfl
@[simp] theorem setSub_mouseDX (ch : Channel) (s : State) : (setSub ch s).mouseDX = s.mouseDX := rfl
@[simp] theorem setSub_mouseDY (ch : Channel) (s : State) : (setSub ch s).mouseDY = s.mouseDY := rfl
@[simp] theorem setSub_gestState (ch : Channel) (s : State) :
    (setSub ch s).gestState = s.gestState := rfl
@[simp] theorem setSub_xSum (ch : Channel) (s : State) : (setSub ch s).xSum = s.xSum := rfl
@[simp] theorem setSub_ySum (ch : Channel) (s : State) : (setSub ch s).ySum = s.ySum := rfl
@[simp] theorem setSub_gestXLen (ch : Channel) (s : State) : (setSub ch s).gestXLen = s.gestXLen :=
  rfl
@[simp] theorem setSub_gestTol (ch : Channel) (s : State) : (setSub ch s).gestTol = s.gestTol := rfl
@[simp] theorem setSub_out (ch : Channel) (s : State) : (setSub ch s).out = s.out := rfl
@[simp] theorem setSub_inputs (ch : Channel) (s : State) : (setSub ch s).inputs = s.inputs := rfl
@[simp] theorem setSub_statusIn (ch : Channel) (s : State) : (setSub ch s).statusIn = s.statusIn :=
  rfl
@[simp] theorem setSub_dataIn (ch : Channel) (s : State) : (setSub ch s).dataIn = s.dataIn := rfl
@[simp] theorem setSub_portReads (ch : Channel) (s : State) :
    (setSub ch s).portReads = s.portReads := rfl
@[simp] theorem setSub_config (ch : Channel) (s : State) : (setSub ch s).config = s.config := rfl

/-! ### `clearSub` -/

@[simp] theorem clearSub_sub (ch : Channel) (s : State) :
    (clearSub ch s).sub = s.sub &&& ~~~(1#2 <<< channelBit ch) := rfl
@[simp] theorem clearSub_kbdPending (ch : Channel) (s : State) :
    (clearSub ch s).kbdPending = s.kbdPending := rfl
@[simp] theorem clearSub_kbdPrefix (ch : Channel) (s : State) :
    (clearSub ch s).kbdPrefix = s.kbdPrefix := rfl
@[simp] theorem clearSub_kbdLast (ch : Channel) (s : State) : (clearSub ch s).kbdLast = s.kbdLast :=
  rfl
@[simp] theorem clearSub_mouseSlot (ch : Channel) (s : State) :
    (clearSub ch s).mouseSlot = s.mouseSlot := rfl
@[simp] theorem clearSub_mouseB0 (ch : Channel) (s : State) : (clearSub ch s).mouseB0 = s.mouseB0 :=
  rfl
@[simp] theorem clearSub_mouseB1 (ch : Channel) (s : State) : (clearSub ch s).mouseB1 = s.mouseB1 :=
  rfl
@[simp] theorem clearSub_mouseB2 (ch : Channel) (s : State) : (clearSub ch s).mouseB2 = s.mouseB2 :=
  rfl
@[simp] theorem clearSub_mouseXS (ch : Channel) (s : State) : (clearSub ch s).mouseXS = s.mouseXS :=
  rfl
@[simp] theorem clearSub_mouseYS (ch : Channel) (s : State) : (clearSub ch s).mouseYS = s.mouseYS :=
  rfl
@[simp] theorem clearSub_mouseDX (ch : Channel) (s : State) : (clearSub ch s).mouseDX = s.mouseDX :=
  rfl
@[simp] theorem clearSub_mouseDY (ch : Channel) (s : State) : (clearSub ch s).mouseDY = s.mouseDY :=
  rfl
@[simp] theorem clearSub_gestState (ch : Channel) (s : State) :
    (clearSub ch s).gestState = s.gestState := rfl
@[simp] theorem clearSub_xSum (ch : Channel) (s : State) : (clearSub ch s).xSum = s.xSum := rfl
@[simp] theorem clearSub_ySum (ch : Channel) (s : State) : (clearSub ch s).ySum = s.ySum := rfl
@[simp] theorem clearSub_gestXLen (ch : Channel) (s : State) :
    (clearSub ch s).gestXLen = s.gestXLen := rfl
@[simp] theorem clearSub_gestTol (ch : Channel) (s : State) : (clearSub ch s).gestTol = s.gestTol :=
  rfl
@[simp] theorem clearSub_out (ch : Channel) (s : State) : (clearSub ch s).out = s.out := rfl
@[simp] theorem clearSub_inputs (ch : Channel) (s : State) : (clearSub ch s).inputs = s.inputs :=
  rfl
@[simp] theorem clearSub_statusIn (ch : Channel) (s : State) :
    (clearSub ch s).statusIn = s.statusIn := rfl
@[simp] theorem clearSub_dataIn (ch : Channel) (s : State) : (clearSub ch s).dataIn = s.dataIn :=
  rfl
@[simp] theorem clearSub_portReads (ch : Channel) (s : State) :
    (clearSub ch s).portReads = s.portReads := rfl
@[simp] theorem clearSub_config (ch : Channel) (s : State) : (clearSub ch s).config = s.config :=
  rfl

/-! ### `recordLast` -/

@[simp] theorem recordLastKbd_sub (d : Byte) (s : State) : (recordLast .kbd d s).sub = s.sub := rfl
@[simp] theorem recordLastKbd_kbdPending (d : Byte) (s : State) :
    (recordLast .kbd d s).kbdPending = s.kbdPending := rfl
@[simp] theorem recordLastKbd_kbdPrefix (d : Byte) (s : State) :
    (recordLast .kbd d s).kbdPrefix = s.kbdPrefix := rfl
@[simp] theorem recordLastKbd_kbdLast (d : Byte) (s : State) : (recordLast .kbd d s).kbdLast = d :=
  rfl
@[simp] theorem recordLastKbd_mouseSlot (d : Byte) (s : State) :
    (recordLast .kbd d s).mouseSlot = s.mouseSlot := rfl
@[simp] theorem recordLastKbd_mouseB0 (d : Byte) (s : State) :
    (recordLast .kbd d s).mouseB0 = s.mouseB0 := rfl
@[simp] theorem recordLastKbd_mouseB1 (d : Byte) (s : State) :
    (recordLast .kbd d s).mouseB1 = s.mouseB1 := rfl
@[simp] theorem recordLastKbd_mouseB2 (d : Byte) (s : State) :
    (recordLast .kbd d s).mouseB2 = s.mouseB2 := rfl
@[simp] theorem recordLastKbd_mouseXS (d : Byte) (s : State) :
    (recordLast .kbd d s).mouseXS = s.mouseXS := rfl
@[simp] theorem recordLastKbd_mouseYS (d : Byte) (s : State) :
    (recordLast .kbd d s).mouseYS = s.mouseYS := rfl
@[simp] theorem recordLastKbd_mouseDX (d : Byte) (s : State) :
    (recordLast .kbd d s).mouseDX = s.mouseDX := rfl
@[simp] theorem recordLastKbd_mouseDY (d : Byte) (s : State) :
    (recordLast .kbd d s).mouseDY = s.mouseDY := rfl
@[simp] theorem recordLastKbd_gestState (d : Byte) (s : State) :
    (recordLast .kbd d s).gestState = s.gestState := rfl
@[simp] theorem recordLastKbd_xSum (d : Byte) (s : State) : (recordLast .kbd d s).xSum = s.xSum :=
  rfl
@[simp] theorem recordLastKbd_ySum (d : Byte) (s : State) : (recordLast .kbd d s).ySum = s.ySum :=
  rfl
@[simp] theorem recordLastKbd_gestXLen (d : Byte) (s : State) :
    (recordLast .kbd d s).gestXLen = s.gestXLen := rfl
@[simp] theorem recordLastKbd_gestTol (d : Byte) (s : State) :
    (recordLast .kbd d s).gestTol = s.gestTol := rfl
@[simp] theorem recordLastKbd_out (d : Byte) (s : State) : (recordLast .kbd d s).out = s.out := rfl
@[simp] theorem recordLastKbd_inputs (d : Byte) (s : State) :
    (recordLast .kbd d s).inputs = s.inputs := rfl
@[simp] theorem recordLastKbd_statusIn (d : Byte) (s : State) :
    (recordLast .kbd d s).statusIn = s.statusIn := rfl
@[simp] theorem recordLastKbd_dataIn (d : Byte) (s : State) :
    (recordLast .kbd d s).dataIn = s.dataIn := rfl
@[simp] theorem recordLastKbd_portReads (d : Byte) (s : State) :
    (recordLast .kbd d s).portReads = s.portReads := rfl
@[simp] theorem recordLastKbd_config (d : Byte) (s : State) :
    (recordLast .kbd d s).config = s.config := rfl

/-! ### `armPrefix` -/

@[simp] theorem armPrefix_sub (b : Byte) (s : State) : (armPrefix b s).sub = s.sub := rfl
@[simp] theorem armPrefix_kbdPending (b : Byte) (s : State) : (armPrefix b s).kbdPending = true :=
  rfl
@[simp] theorem armPrefix_kbdPrefix (b : Byte) (s : State) : (armPrefix b s).kbdPrefix = b := rfl
@[simp] theorem armPrefix_kbdLast (b : Byte) (s : State) : (armPrefix b s).kbdLast = s.kbdLast :=
  rfl
@[simp] theorem armPrefix_mouseSlot (b : Byte) (s : State) :
    (armPrefix b s).mouseSlot = s.mouseSlot := rfl
@[simp] theorem armPrefix_mouseB0 (b : Byte) (s : State) : (armPrefix b s).mouseB0 = s.mouseB0 :=
  rfl
@[simp] theorem armPrefix_mouseB1 (b : Byte) (s : State) : (armPrefix b s).mouseB1 = s.mouseB1 :=
  rfl
@[simp] theorem armPrefix_mouseB2 (b : Byte) (s : State) : (armPrefix b s).mouseB2 = s.mouseB2 :=
  rfl
@[simp] theorem armPrefix_mouseXS (b : Byte) (s : State) : (armPrefix b s).mouseXS = s.mouseXS :=
  rfl
@[simp] theorem armPrefix_mouseYS (b : Byte) (s : State) : (armPrefix b s).mouseYS = s.mouseYS :=
  rfl
@[simp] theorem armPrefix_mouseDX (b : Byte) (s : State) : (armPrefix b s).mouseDX = s.mouseDX :=
  rfl
@[simp] theorem armPrefix_mouseDY (b : Byte) (s : State) : (armPrefix b s).mouseDY = s.mouseDY :=
  rfl
@[simp] theorem armPrefix_gestState (b : Byte) (s : State) :
    (armPrefix b s).gestState = s.gestState := rfl
@[simp] theorem armPrefix_xSum (b : Byte) (s : State) : (armPrefix b s).xSum = s.xSum := rfl
@[simp] theorem armPrefix_ySum (b : Byte) (s : State) : (armPrefix b s).ySum = s.ySum := rfl
@[simp] theorem armPrefix_gestXLen (b : Byte) (s : State) : (armPrefix b s).gestXLen = s.gestXLen :=
  rfl
@[simp] theorem armPrefix_gestTol (b : Byte) (s : State) : (armPrefix b s).gestTol = s.gestTol :=
  rfl
@[simp] theorem armPrefix_out (b : Byte) (s : State) : (armPrefix b s).out = s.out := rfl
@[simp] theorem armPrefix_inputs (b : Byte) (s : State) : (armPrefix b s).inputs = s.inputs := rfl
@[simp] theorem armPrefix_statusIn (b : Byte) (s : State) : (armPrefix b s).statusIn = s.statusIn :=
  rfl
@[simp] theorem armPrefix_dataIn (b : Byte) (s : State) : (armPrefix b s).dataIn = s.dataIn := rfl
@[simp] theorem armPrefix_portReads (b : Byte) (s : State) :
    (armPrefix b s).portReads = s.portReads := rfl
@[simp] theorem armPrefix_config (b : Byte) (s : State) : (armPrefix b s).config = s.config := rfl

/-! ### `clearPending` -/

@[simp] theorem clearPending_sub (s : State) : (clearPending s).sub = s.sub := rfl
@[simp] theorem clearPending_kbdPending (s : State) : (clearPending s).kbdPending = false := rfl
@[simp] theorem clearPending_kbdPrefix (s : State) : (clearPending s).kbdPrefix = s.kbdPrefix := rfl
@[simp] theorem clearPending_kbdLast (s : State) : (clearPending s).kbdLast = s.kbdLast := rfl
@[simp] theorem clearPending_mouseSlot (s : State) : (clearPending s).mouseSlot = s.mouseSlot := rfl
@[simp] theorem clearPending_mouseB0 (s : State) : (clearPending s).mouseB0 = s.mouseB0 := rfl
@[simp] theorem clearPending_mouseB1 (s : State) : (clearPending s).mouseB1 = s.mouseB1 := rfl
@[simp] theorem clearPending_mouseB2 (s : State) : (clearPending s).mouseB2 = s.mouseB2 := rfl
@[simp] theorem clearPending_mouseXS (s : State) : (clearPending s).mouseXS = s.mouseXS := rfl
@[simp] theorem clearPending_mouseYS (s : State) : (clearPending s).mouseYS = s.mouseYS := rfl
@[simp] theorem clearPending_mouseDX (s : State) : (clearPending s).mouseDX = s.mouseDX := rfl
@[simp] theorem clearPending_mouseDY (s : State) : (clearPending s).mouseDY = s.mouseDY := rfl
@[simp] theorem clearPending_gestState (s : State) : (clearPending s).gestState = s.gestState := rfl
@[simp] theorem clearPending_xSum (s : State) : (clearPending s).xSum = s.xSum := rfl
@[simp] theorem clearPending_ySum (s : State) : (clearPending s).ySum = s.ySum := rfl
@[simp] theorem clearPending_gestXLen (s : State) : (clearPending s).gestXLen = s.gestXLen := rfl
@[simp] theorem clearPending_gestTol (s : State) : (clearPending s).gestTol = s.gestTol := rfl
@[simp] theorem clearPending_out (s : State) : (clearPending s).out = s.out := rfl
@[simp] theorem clearPending_inputs (s : State) : (clearPending s).inputs = s.inputs := rfl
@[simp] theorem clearPending_statusIn (s : State) : (clearPending s).statusIn = s.statusIn := rfl
@[simp] theorem clearPending_dataIn (s : State) : (clearPending s).dataIn = s.dataIn := rfl
@[simp] theorem clearPending_portReads (s : State) : (clearPending s).portReads = s.portReads := rfl
@[simp] theorem clearPending_config (s : State) : (clearPending s).config = s.config := rfl

/-! ### `captureByte0` -/

@[simp] theorem captureByte0_sub (p : Config.Params) (b : Byte) (s : State) :
    (captureByte0 p b s).sub = s.sub := rfl
@[simp] theorem captureByte0_kbdPending (p : Config.Params) (b : Byte) (s : State) :
    (captureByte0 p b s).kbdPending = s.kbdPending := rfl
@[simp] theorem captureByte0_kbdPrefix (p : Config.Params) (b : Byte) (s : State) :
    (captureByte0 p b s).kbdPrefix = s.kbdPrefix := rfl
@[simp] theorem captureByte0_kbdLast (p : Config.Params) (b : Byte) (s : State) :
    (captureByte0 p b s).kbdLast = s.kbdLast := rfl
@[simp] theorem captureByte0_mouseSlot (p : Config.Params) (b : Byte) (s : State) :
    (captureByte0 p b s).mouseSlot = .slot1 := rfl
@[simp] theorem captureByte0_mouseB0 (p : Config.Params) (b : Byte) (s : State) :
    (captureByte0 p b s).mouseB0 = b := rfl
@[simp] theorem captureByte0_mouseB1 (p : Config.Params) (b : Byte) (s : State) :
    (captureByte0 p b s).mouseB1 = s.mouseB1 := rfl
@[simp] theorem captureByte0_mouseB2 (p : Config.Params) (b : Byte) (s : State) :
    (captureByte0 p b s).mouseB2 = s.mouseB2 := rfl
@[simp] theorem captureByte0_mouseXS (p : Config.Params) (b : Byte) (s : State) :
    (captureByte0 p b s).mouseXS = b.getLsbD p.xsignBit := rfl
@[simp] theorem captureByte0_mouseYS (p : Config.Params) (b : Byte) (s : State) :
    (captureByte0 p b s).mouseYS = b.getLsbD p.ysignBit := rfl
@[simp] theorem captureByte0_mouseDX (p : Config.Params) (b : Byte) (s : State) :
    (captureByte0 p b s).mouseDX = s.mouseDX := rfl
@[simp] theorem captureByte0_mouseDY (p : Config.Params) (b : Byte) (s : State) :
    (captureByte0 p b s).mouseDY = s.mouseDY := rfl
@[simp] theorem captureByte0_gestState (p : Config.Params) (b : Byte) (s : State) :
    (captureByte0 p b s).gestState = s.gestState := rfl
@[simp] theorem captureByte0_xSum (p : Config.Params) (b : Byte) (s : State) :
    (captureByte0 p b s).xSum = s.xSum := rfl
@[simp] theorem captureByte0_ySum (p : Config.Params) (b : Byte) (s : State) :
    (captureByte0 p b s).ySum = s.ySum := rfl
@[simp] theorem captureByte0_gestXLen (p : Config.Params) (b : Byte) (s : State) :
    (captureByte0 p b s).gestXLen = s.gestXLen := rfl
@[simp] theorem captureByte0_gestTol (p : Config.Params) (b : Byte) (s : State) :
    (captureByte0 p b s).gestTol = s.gestTol := rfl
@[simp] theorem captureByte0_out (p : Config.Params) (b : Byte) (s : State) :
    (captureByte0 p b s).out = s.out := rfl
@[simp] theorem captureByte0_inputs (p : Config.Params) (b : Byte) (s : State) :
    (captureByte0 p b s).inputs = s.inputs := rfl
@[simp] theorem captureByte0_statusIn (p : Config.Params) (b : Byte) (s : State) :
    (captureByte0 p b s).statusIn = s.statusIn := rfl
@[simp] theorem captureByte0_dataIn (p : Config.Params) (b : Byte) (s : State) :
    (captureByte0 p b s).dataIn = s.dataIn := rfl
@[simp] theorem captureByte0_portReads (p : Config.Params) (b : Byte) (s : State) :
    (captureByte0 p b s).portReads = s.portReads := rfl
@[simp] theorem captureByte0_config (p : Config.Params) (b : Byte) (s : State) :
    (captureByte0 p b s).config = s.config := rfl

/-! ### `captureByte1` -/

@[simp] theorem captureByte1_sub (p : Config.Params) (b : Byte) (s : State) :
    (captureByte1 p b s).sub = s.sub := rfl
@[simp] theorem captureByte1_kbdPending (p : Config.Params) (b : Byte) (s : State) :
    (captureByte1 p b s).kbdPending = s.kbdPending := rfl
@[simp] theorem captureByte1_kbdPrefix (p : Config.Params) (b : Byte) (s : State) :
    (captureByte1 p b s).kbdPrefix = s.kbdPrefix := rfl
@[simp] theorem captureByte1_kbdLast (p : Config.Params) (b : Byte) (s : State) :
    (captureByte1 p b s).kbdLast = s.kbdLast := rfl
@[simp] theorem captureByte1_mouseSlot (p : Config.Params) (b : Byte) (s : State) :
    (captureByte1 p b s).mouseSlot = .slot2 := rfl
@[simp] theorem captureByte1_mouseB0 (p : Config.Params) (b : Byte) (s : State) :
    (captureByte1 p b s).mouseB0 = s.mouseB0 := rfl
@[simp] theorem captureByte1_mouseB1 (p : Config.Params) (b : Byte) (s : State) :
    (captureByte1 p b s).mouseB1 = b := rfl
@[simp] theorem captureByte1_mouseB2 (p : Config.Params) (b : Byte) (s : State) :
    (captureByte1 p b s).mouseB2 = s.mouseB2 := rfl
@[simp] theorem captureByte1_mouseXS (p : Config.Params) (b : Byte) (s : State) :
    (captureByte1 p b s).mouseXS = s.mouseXS := rfl
@[simp] theorem captureByte1_mouseYS (p : Config.Params) (b : Byte) (s : State) :
    (captureByte1 p b s).mouseYS = s.mouseYS := rfl
@[simp] theorem captureByte1_mouseDX (p : Config.Params) (b : Byte) (s : State) :
    (captureByte1 p b s).mouseDX = deltaOf p s.mouseXS b := rfl
@[simp] theorem captureByte1_mouseDY (p : Config.Params) (b : Byte) (s : State) :
    (captureByte1 p b s).mouseDY = s.mouseDY := rfl
@[simp] theorem captureByte1_gestState (p : Config.Params) (b : Byte) (s : State) :
    (captureByte1 p b s).gestState = s.gestState := rfl
@[simp] theorem captureByte1_xSum (p : Config.Params) (b : Byte) (s : State) :
    (captureByte1 p b s).xSum = s.xSum := rfl
@[simp] theorem captureByte1_ySum (p : Config.Params) (b : Byte) (s : State) :
    (captureByte1 p b s).ySum = s.ySum := rfl
@[simp] theorem captureByte1_gestXLen (p : Config.Params) (b : Byte) (s : State) :
    (captureByte1 p b s).gestXLen = s.gestXLen := rfl
@[simp] theorem captureByte1_gestTol (p : Config.Params) (b : Byte) (s : State) :
    (captureByte1 p b s).gestTol = s.gestTol := rfl
@[simp] theorem captureByte1_out (p : Config.Params) (b : Byte) (s : State) :
    (captureByte1 p b s).out = s.out := rfl
@[simp] theorem captureByte1_inputs (p : Config.Params) (b : Byte) (s : State) :
    (captureByte1 p b s).inputs = s.inputs := rfl
@[simp] theorem captureByte1_statusIn (p : Config.Params) (b : Byte) (s : State) :
    (captureByte1 p b s).statusIn = s.statusIn := rfl
@[simp] theorem captureByte1_dataIn (p : Config.Params) (b : Byte) (s : State) :
    (captureByte1 p b s).dataIn = s.dataIn := rfl
@[simp] theorem captureByte1_portReads (p : Config.Params) (b : Byte) (s : State) :
    (captureByte1 p b s).portReads = s.portReads := rfl
@[simp] theorem captureByte1_config (p : Config.Params) (b : Byte) (s : State) :
    (captureByte1 p b s).config = s.config := rfl

/-! ### `captureByte2` -/

@[simp] theorem captureByte2_sub (p : Config.Params) (b : Byte) (s : State) :
    (captureByte2 p b s).sub = s.sub := rfl
@[simp] theorem captureByte2_kbdPending (p : Config.Params) (b : Byte) (s : State) :
    (captureByte2 p b s).kbdPending = s.kbdPending := rfl
@[simp] theorem captureByte2_kbdPrefix (p : Config.Params) (b : Byte) (s : State) :
    (captureByte2 p b s).kbdPrefix = s.kbdPrefix := rfl
@[simp] theorem captureByte2_kbdLast (p : Config.Params) (b : Byte) (s : State) :
    (captureByte2 p b s).kbdLast = s.kbdLast := rfl
@[simp] theorem captureByte2_mouseSlot (p : Config.Params) (b : Byte) (s : State) :
    (captureByte2 p b s).mouseSlot = .slot0 := rfl
@[simp] theorem captureByte2_mouseB0 (p : Config.Params) (b : Byte) (s : State) :
    (captureByte2 p b s).mouseB0 = s.mouseB0 := rfl
@[simp] theorem captureByte2_mouseB1 (p : Config.Params) (b : Byte) (s : State) :
    (captureByte2 p b s).mouseB1 = s.mouseB1 := rfl
@[simp] theorem captureByte2_mouseB2 (p : Config.Params) (b : Byte) (s : State) :
    (captureByte2 p b s).mouseB2 = b := rfl
@[simp] theorem captureByte2_mouseXS (p : Config.Params) (b : Byte) (s : State) :
    (captureByte2 p b s).mouseXS = s.mouseXS := rfl
@[simp] theorem captureByte2_mouseYS (p : Config.Params) (b : Byte) (s : State) :
    (captureByte2 p b s).mouseYS = s.mouseYS := rfl
@[simp] theorem captureByte2_mouseDX (p : Config.Params) (b : Byte) (s : State) :
    (captureByte2 p b s).mouseDX = s.mouseDX := rfl
@[simp] theorem captureByte2_mouseDY (p : Config.Params) (b : Byte) (s : State) :
    (captureByte2 p b s).mouseDY = deltaOf p s.mouseYS b := rfl
@[simp] theorem captureByte2_gestState (p : Config.Params) (b : Byte) (s : State) :
    (captureByte2 p b s).gestState = s.gestState := rfl
@[simp] theorem captureByte2_xSum (p : Config.Params) (b : Byte) (s : State) :
    (captureByte2 p b s).xSum = s.xSum := rfl
@[simp] theorem captureByte2_ySum (p : Config.Params) (b : Byte) (s : State) :
    (captureByte2 p b s).ySum = s.ySum := rfl
@[simp] theorem captureByte2_gestXLen (p : Config.Params) (b : Byte) (s : State) :
    (captureByte2 p b s).gestXLen = s.gestXLen := rfl
@[simp] theorem captureByte2_gestTol (p : Config.Params) (b : Byte) (s : State) :
    (captureByte2 p b s).gestTol = s.gestTol := rfl
@[simp] theorem captureByte2_out (p : Config.Params) (b : Byte) (s : State) :
    (captureByte2 p b s).out = s.out := rfl
@[simp] theorem captureByte2_inputs (p : Config.Params) (b : Byte) (s : State) :
    (captureByte2 p b s).inputs = s.inputs := rfl
@[simp] theorem captureByte2_statusIn (p : Config.Params) (b : Byte) (s : State) :
    (captureByte2 p b s).statusIn = s.statusIn := rfl
@[simp] theorem captureByte2_dataIn (p : Config.Params) (b : Byte) (s : State) :
    (captureByte2 p b s).dataIn = s.dataIn := rfl
@[simp] theorem captureByte2_portReads (p : Config.Params) (b : Byte) (s : State) :
    (captureByte2 p b s).portReads = s.portReads := rfl
@[simp] theorem captureByte2_config (p : Config.Params) (b : Byte) (s : State) :
    (captureByte2 p b s).config = s.config := rfl

/-! ### `transition` -/

@[simp] theorem transition_sub (g : GestState) (s : State) : (transition g s).sub = s.sub := rfl
@[simp] theorem transition_kbdPending (g : GestState) (s : State) :
    (transition g s).kbdPending = s.kbdPending := rfl
@[simp] theorem transition_kbdPrefix (g : GestState) (s : State) :
    (transition g s).kbdPrefix = s.kbdPrefix := rfl
@[simp] theorem transition_kbdLast (g : GestState) (s : State) :
    (transition g s).kbdLast = s.kbdLast := rfl
@[simp] theorem transition_mouseSlot (g : GestState) (s : State) :
    (transition g s).mouseSlot = s.mouseSlot := rfl
@[simp] theorem transition_mouseB0 (g : GestState) (s : State) :
    (transition g s).mouseB0 = s.mouseB0 := rfl
@[simp] theorem transition_mouseB1 (g : GestState) (s : State) :
    (transition g s).mouseB1 = s.mouseB1 := rfl
@[simp] theorem transition_mouseB2 (g : GestState) (s : State) :
    (transition g s).mouseB2 = s.mouseB2 := rfl
@[simp] theorem transition_mouseXS (g : GestState) (s : State) :
    (transition g s).mouseXS = s.mouseXS := rfl
@[simp] theorem transition_mouseYS (g : GestState) (s : State) :
    (transition g s).mouseYS = s.mouseYS := rfl
@[simp] theorem transition_mouseDX (g : GestState) (s : State) :
    (transition g s).mouseDX = s.mouseDX := rfl
@[simp] theorem transition_mouseDY (g : GestState) (s : State) :
    (transition g s).mouseDY = s.mouseDY := rfl
@[simp] theorem transition_gestState (g : GestState) (s : State) : (transition g s).gestState = g :=
  rfl
@[simp] theorem transition_xSum (g : GestState) (s : State) : (transition g s).xSum = 0 := rfl
@[simp] theorem transition_ySum (g : GestState) (s : State) : (transition g s).ySum = 0 := rfl
@[simp] theorem transition_gestXLen (g : GestState) (s : State) :
    (transition g s).gestXLen = s.gestXLen := rfl
@[simp] theorem transition_gestTol (g : GestState) (s : State) :
    (transition g s).gestTol = s.gestTol := rfl
@[simp] theorem transition_out (g : GestState) (s : State) : (transition g s).out = s.out := rfl
@[simp] theorem transition_inputs (g : GestState) (s : State) :
    (transition g s).inputs = s.inputs := rfl
@[simp] theorem transition_statusIn (g : GestState) (s : State) :
    (transition g s).statusIn = s.statusIn := rfl
@[simp] theorem transition_dataIn (g : GestState) (s : State) :
    (transition g s).dataIn = s.dataIn := rfl
@[simp] theorem transition_portReads (g : GestState) (s : State) :
    (transition g s).portReads = s.portReads := rfl
@[simp] theorem transition_config (g : GestState) (s : State) :
    (transition g s).config = s.config := rfl

/-! ### `writeSums` -/

@[simp] theorem writeSums_sub (x y : Int) (s : State) : (writeSums x y s).sub = s.sub := rfl
@[simp] theorem writeSums_kbdPending (x y : Int) (s : State) :
    (writeSums x y s).kbdPending = s.kbdPending := rfl
@[simp] theorem writeSums_kbdPrefix (x y : Int) (s : State) :
    (writeSums x y s).kbdPrefix = s.kbdPrefix := rfl
@[simp] theorem writeSums_kbdLast (x y : Int) (s : State) : (writeSums x y s).kbdLast = s.kbdLast :=
  rfl
@[simp] theorem writeSums_mouseSlot (x y : Int) (s : State) :
    (writeSums x y s).mouseSlot = s.mouseSlot := rfl
@[simp] theorem writeSums_mouseB0 (x y : Int) (s : State) : (writeSums x y s).mouseB0 = s.mouseB0 :=
  rfl
@[simp] theorem writeSums_mouseB1 (x y : Int) (s : State) : (writeSums x y s).mouseB1 = s.mouseB1 :=
  rfl
@[simp] theorem writeSums_mouseB2 (x y : Int) (s : State) : (writeSums x y s).mouseB2 = s.mouseB2 :=
  rfl
@[simp] theorem writeSums_mouseXS (x y : Int) (s : State) : (writeSums x y s).mouseXS = s.mouseXS :=
  rfl
@[simp] theorem writeSums_mouseYS (x y : Int) (s : State) : (writeSums x y s).mouseYS = s.mouseYS :=
  rfl
@[simp] theorem writeSums_mouseDX (x y : Int) (s : State) : (writeSums x y s).mouseDX = s.mouseDX :=
  rfl
@[simp] theorem writeSums_mouseDY (x y : Int) (s : State) : (writeSums x y s).mouseDY = s.mouseDY :=
  rfl
@[simp] theorem writeSums_gestState (x y : Int) (s : State) :
    (writeSums x y s).gestState = s.gestState := rfl
@[simp] theorem writeSums_xSum (x y : Int) (s : State) : (writeSums x y s).xSum = x := rfl
@[simp] theorem writeSums_ySum (x y : Int) (s : State) : (writeSums x y s).ySum = y := rfl
@[simp] theorem writeSums_gestXLen (x y : Int) (s : State) :
    (writeSums x y s).gestXLen = s.gestXLen := rfl
@[simp] theorem writeSums_gestTol (x y : Int) (s : State) : (writeSums x y s).gestTol = s.gestTol :=
  rfl
@[simp] theorem writeSums_out (x y : Int) (s : State) : (writeSums x y s).out = s.out := rfl
@[simp] theorem writeSums_inputs (x y : Int) (s : State) : (writeSums x y s).inputs = s.inputs :=
  rfl
@[simp] theorem writeSums_statusIn (x y : Int) (s : State) :
    (writeSums x y s).statusIn = s.statusIn := rfl
@[simp] theorem writeSums_dataIn (x y : Int) (s : State) : (writeSums x y s).dataIn = s.dataIn :=
  rfl
@[simp] theorem writeSums_portReads (x y : Int) (s : State) :
    (writeSums x y s).portReads = s.portReads := rfl
@[simp] theorem writeSums_config (x y : Int) (s : State) : (writeSums x y s).config = s.config :=
  rfl

/-! ### `writeParams` -/

@[simp] theorem writeParams_sub (p : Config.Params) (xLen tol : Byte) (s : State) :
    (writeParams p xLen tol s).sub = s.sub := rfl
@[simp] theorem writeParams_kbdPending (p : Config.Params) (xLen tol : Byte) (s : State) :
    (writeParams p xLen tol s).kbdPending = s.kbdPending := rfl
@[simp] theorem writeParams_kbdPrefix (p : Config.Params) (xLen tol : Byte) (s : State) :
    (writeParams p xLen tol s).kbdPrefix = s.kbdPrefix := rfl
@[simp] theorem writeParams_kbdLast (p : Config.Params) (xLen tol : Byte) (s : State) :
    (writeParams p xLen tol s).kbdLast = s.kbdLast := rfl
@[simp] theorem writeParams_mouseSlot (p : Config.Params) (xLen tol : Byte) (s : State) :
    (writeParams p xLen tol s).mouseSlot = s.mouseSlot := rfl
@[simp] theorem writeParams_mouseB0 (p : Config.Params) (xLen tol : Byte) (s : State) :
    (writeParams p xLen tol s).mouseB0 = s.mouseB0 := rfl
@[simp] theorem writeParams_mouseB1 (p : Config.Params) (xLen tol : Byte) (s : State) :
    (writeParams p xLen tol s).mouseB1 = s.mouseB1 := rfl
@[simp] theorem writeParams_mouseB2 (p : Config.Params) (xLen tol : Byte) (s : State) :
    (writeParams p xLen tol s).mouseB2 = s.mouseB2 := rfl
@[simp] theorem writeParams_mouseXS (p : Config.Params) (xLen tol : Byte) (s : State) :
    (writeParams p xLen tol s).mouseXS = s.mouseXS := rfl
@[simp] theorem writeParams_mouseYS (p : Config.Params) (xLen tol : Byte) (s : State) :
    (writeParams p xLen tol s).mouseYS = s.mouseYS := rfl
@[simp] theorem writeParams_mouseDX (p : Config.Params) (xLen tol : Byte) (s : State) :
    (writeParams p xLen tol s).mouseDX = s.mouseDX := rfl
@[simp] theorem writeParams_mouseDY (p : Config.Params) (xLen tol : Byte) (s : State) :
    (writeParams p xLen tol s).mouseDY = s.mouseDY := rfl
@[simp] theorem writeParams_gestState (p : Config.Params) (xLen tol : Byte) (s : State) :
    (writeParams p xLen tol s).gestState = s.gestState := rfl
@[simp] theorem writeParams_xSum (p : Config.Params) (xLen tol : Byte) (s : State) :
    (writeParams p xLen tol s).xSum = s.xSum := rfl
@[simp] theorem writeParams_ySum (p : Config.Params) (xLen tol : Byte) (s : State) :
    (writeParams p xLen tol s).ySum = s.ySum := rfl
@[simp] theorem writeParams_gestXLen (p : Config.Params) (xLen tol : Byte) (s : State) :
    (writeParams p xLen tol s).gestXLen = thresholdOf p xLen := rfl
@[simp] theorem writeParams_gestTol (p : Config.Params) (xLen tol : Byte) (s : State) :
    (writeParams p xLen tol s).gestTol = thresholdOf p tol := rfl
@[simp] theorem writeParams_out (p : Config.Params) (xLen tol : Byte) (s : State) :
    (writeParams p xLen tol s).out = s.out := rfl
@[simp] theorem writeParams_inputs (p : Config.Params) (xLen tol : Byte) (s : State) :
    (writeParams p xLen tol s).inputs = s.inputs := rfl
@[simp] theorem writeParams_statusIn (p : Config.Params) (xLen tol : Byte) (s : State) :
    (writeParams p xLen tol s).statusIn = s.statusIn := rfl
@[simp] theorem writeParams_dataIn (p : Config.Params) (xLen tol : Byte) (s : State) :
    (writeParams p xLen tol s).dataIn = s.dataIn := rfl
@[simp] theorem writeParams_portReads (p : Config.Params) (xLen tol : Byte) (s : State) :
    (writeParams p xLen tol s).portReads = s.portReads := rfl
@[simp] theorem writeParams_config (p : Config.Params) (xLen tol : Byte) (s : State) :
    (writeParams p xLen tol s).config = s.config := rfl

/-! ### `blockReset` -/

@[simp] theorem blockReset_sub (s : State) : (blockReset s).sub = State.reset.sub := rfl
@[simp] theorem blockReset_kbdPending (s : State) :
    (blockReset s).kbdPending = State.reset.kbdPending := rfl
@[simp] theorem blockReset_kbdPrefix (s : State) :
    (blockReset s).kbdPrefix = State.reset.kbdPrefix := rfl
@[simp] theorem blockReset_kbdLast (s : State) : (blockReset s).kbdLast = State.reset.kbdLast := rfl
@[simp] theorem blockReset_mouseSlot (s : State) :
    (blockReset s).mouseSlot = State.reset.mouseSlot := rfl
@[simp] theorem blockReset_mouseB0 (s : State) : (blockReset s).mouseB0 = State.reset.mouseB0 := rfl
@[simp] theorem blockReset_mouseB1 (s : State) : (blockReset s).mouseB1 = State.reset.mouseB1 := rfl
@[simp] theorem blockReset_mouseB2 (s : State) : (blockReset s).mouseB2 = State.reset.mouseB2 := rfl
@[simp] theorem blockReset_mouseXS (s : State) : (blockReset s).mouseXS = State.reset.mouseXS := rfl
@[simp] theorem blockReset_mouseYS (s : State) : (blockReset s).mouseYS = State.reset.mouseYS := rfl
@[simp] theorem blockReset_mouseDX (s : State) : (blockReset s).mouseDX = State.reset.mouseDX := rfl
@[simp] theorem blockReset_mouseDY (s : State) : (blockReset s).mouseDY = State.reset.mouseDY := rfl
@[simp] theorem blockReset_gestState (s : State) :
    (blockReset s).gestState = State.reset.gestState := rfl
@[simp] theorem blockReset_xSum (s : State) : (blockReset s).xSum = State.reset.xSum := rfl
@[simp] theorem blockReset_ySum (s : State) : (blockReset s).ySum = State.reset.ySum := rfl
@[simp] theorem blockReset_gestXLen (s : State) : (blockReset s).gestXLen = State.reset.gestXLen :=
  rfl
@[simp] theorem blockReset_gestTol (s : State) : (blockReset s).gestTol = State.reset.gestTol := rfl
@[simp] theorem blockReset_out (s : State) : (blockReset s).out = State.reset.out := rfl
@[simp] theorem blockReset_inputs (s : State) : (blockReset s).inputs = s.inputs := rfl
@[simp] theorem blockReset_statusIn (s : State) : (blockReset s).statusIn = s.statusIn := rfl
@[simp] theorem blockReset_dataIn (s : State) : (blockReset s).dataIn = s.dataIn := rfl
@[simp] theorem blockReset_portReads (s : State) : (blockReset s).portReads = s.portReads := rfl
@[simp] theorem blockReset_config (s : State) : (blockReset s).config = s.config := rfl

end Sys2Proof.Machine
end

