-- ==== Sys2Proof/Laws/Values.lean ====
section
/-! SUPPORT. The parameters' default values (R9), field by field, and the words of the records without
a byte operand (R113, R114, R280). -/

namespace Sys2Proof.Machine

@[simp] theorem params_pollBudget : params.pollBudget = 10 := rfl
@[simp] theorem params_extPrefix : params.extPrefix = 0xE0#8 := rfl
@[simp] theorem params_breakBit : params.breakBit = 7 := rfl
@[simp] theorem params_syncBit : params.syncBit = 3 := rfl
@[simp] theorem params_xsignBit : params.xsignBit = 4 := rfl
@[simp] theorem params_ysignBit : params.ysignBit = 5 := rfl
@[simp] theorem params_lbBit : params.lbBit = 0 := rfl
@[simp] theorem params_rbBit : params.rbBit = 1 := rfl
@[simp] theorem params_mbBit : params.mbBit = 2 := rfl
@[simp] theorem params_xovBit : params.xovBit = 6 := rfl
@[simp] theorem params_yovBit : params.yovBit = 7 := rfl
@[simp] theorem params_stObf : params.stObf = 0 := rfl
@[simp] theorem params_stIbf : params.stIbf = 1 := rfl
@[simp] theorem params_stAux : params.stAux = 5 := rfl
@[simp] theorem params_stTimeout : params.stTimeout = 6 := rfl
@[simp] theorem params_stParity : params.stParity = 7 := rfl
@[simp] theorem params_statusPort : params.statusPort = 0x64#16 := rfl
@[simp] theorem params_dataPort : params.dataPort = 0x60#16 := rfl
@[simp] theorem params_irqBitKbd : params.irqBitKbd = 0 := rfl
@[simp] theorem params_irqBitMouse : params.irqBitMouse = 1 := rfl
@[simp] theorem params_deltaWidth : params.deltaWidth = 9 := rfl
@[simp] theorem params_sumWidth : params.sumWidth = 32 := rfl
@[simp] theorem params_paramWidth : params.paramWidth = 8 := rfl
@[simp] theorem params_opWidth : params.opWidth = 32 := rfl

@[simp] theorem gestureDone_word : Record.gestureDone.word = 0x83000000#32 := rfl
@[simp] theorem discard_kbd_pollTimeout_word :
    (Record.discard .kbd .pollTimeout).word = 0x84000001#32 := by decide
@[simp] theorem discard_kbd_parityError_word :
    (Record.discard .kbd .parityError).word = 0x84000002#32 := by decide
@[simp] theorem discard_kbd_controllerTimeoutError_word :
    (Record.discard .kbd .controllerTimeoutError).word = 0x84000003#32 := by decide
@[simp] theorem discard_kbd_wrongOriginError_word :
    (Record.discard .kbd .wrongOriginError).word = 0x84000004#32 := by decide
@[simp] theorem discard_mouse_pollTimeout_word :
    (Record.discard .mouse .pollTimeout).word = 0x84000101#32 := by decide
@[simp] theorem discard_mouse_parityError_word :
    (Record.discard .mouse .parityError).word = 0x84000102#32 := by decide
@[simp] theorem discard_mouse_controllerTimeoutError_word :
    (Record.discard .mouse .controllerTimeoutError).word = 0x84000103#32 := by decide
@[simp] theorem discard_mouse_wrongOriginError_word :
    (Record.discard .mouse .wrongOriginError).word = 0x84000104#32 := by decide
@[simp] theorem discard_mouse_syncError_word :
    (Record.discard .mouse .syncError).word = 0x84000105#32 := by decide
@[simp] theorem discard_ctrl_illegalOp_word :
    (Record.discard .ctrl .illegalOp).word = 0x84000206#32 := by decide

end Sys2Proof.Machine
end

