-- ==== Sys2Proof/Laws/Ops.lean ====
section
/-! SUPPORT. For each shared operation, once, everything it can do: reading a port, polling, the drain,
the two reassemblers, the gesture step and the two handlers. Later proofs cite these lemmas and do not
unfold the operations. -/

namespace Sys2Proof.Machine

open Sys2Proof.Safety

/-! ## Widths -/

/-- The wrapped number fits its width. -/
theorem fitsSigned_wrapTo (n : Nat) (v : Int) : fitsSigned n (wrapTo n v) := by
  have hpos : (0 : Int) < 2 ^ n := by positivity
  have hcast : ((2 ^ n : Nat) : Int) = 2 ^ n := by norm_cast
  have hle := Int.le_bmod (x := v) (m := 2 ^ n) (by positivity)
  have hlt := Int.bmod_lt (x := v) (m := 2 ^ n) (by positivity)
  rw [hcast] at hle hlt
  constructor <;> simp only [wrapTo] <;> omega

/-- A number that fits a width is unchanged by wrapping to it. -/
theorem wrapTo_of_fits {n : Nat} {v : Int} (h : fitsSigned n v) : wrapTo n v = v := by
  have hcast : ((2 ^ n : Nat) : Int) = 2 ^ n := by norm_cast
  obtain ⟨hle, hlt⟩ := h
  exact Int.bmod_eq_of_le_mul_two (by omega) (by omega)

/-- `wrap_N` by remainder. -/
theorem wrapTo_eq_wrapped (n : Nat) (v : Int) : wrapTo n v = wrapped n v := by
  have hcast : ((2 ^ n : Nat) : Int) = 2 ^ n := by norm_cast
  simp only [wrapTo, wrapped, Int.bmod_def, hcast]
  split <;> split <;> omega

/-- The assembled delta is the byte less 256 where the sign is set (R94). -/
theorem assembleDelta_eq (sign : Bool) (b : Byte) :
    assembleDelta sign b = b.toNat - 256 * sign.toNat := by
  revert b; cases sign <;> decide

/-- A delta register of at least 9 bits holds the assembled delta (R41, R94). -/
theorem deltaOf_eq {p : Config.Params} (sign : Bool) (b : Byte) (h : 9 ≤ p.deltaWidth) :
    deltaOf p sign b = b.toNat - 256 * sign.toNat := by
  have hb := b.isLt
  have hs := Bool.toNat_le sign
  have hpow : (2 : Int) ^ 9 ≤ 2 ^ p.deltaWidth := pow_le_pow_right₀ (by norm_num) h
  rw [deltaOf, assembleDelta_eq, wrapTo_of_fits]
  constructor <;> norm_num at hpow <;> omega

/-! ## The command port -/

theorem takeInput_nil {s : State} (h : s.inputs = []) : takeInput s = none := by
  simp [takeInput, h]

theorem takeInput_cons {s : State} {i : Input} {rest : List Input} (h : s.inputs = i :: rest) :
    takeInput s = some (i, { s with inputs := rest }) := by
  simp [takeInput, h]

/-! ## Ports -/

theorem portAnswer_status (p : Config.Params) (s : State) :
    portAnswer p .status s = statusAt p s 0 := by
  cases h : s.statusIn <;> simp [portAnswer, statusAt, h]

theorem portAnswer_data (p : Config.Params) (s : State) :
    portAnswer p .data s = dataAt p s 0 := by
  simp [portAnswer, dataAt]

/-- One status read moves the numbering of the samples by one. -/
theorem statusAt_afterRead (p : Config.Params) (s : State) (i : Nat) :
    statusAt p (afterRead p .status s) i = statusAt p s (i + 1) := by
  simp [statusAt, Nat.add_assoc, Nat.add_comm 1 i]

theorem dataAt_afterSamples (p : Config.Params) (k : Nat) (s : State) :
    dataAt p (afterSamples p k s) 0 = dataAt p s k := by
  simp [dataAt, afterSamples]

theorem afterSamples_zero (p : Config.Params) (s : State) : afterSamples p 0 s = s := by
  simp [afterSamples]

theorem afterSamples_afterRead (p : Config.Params) (k : Nat) (s : State) :
    afterSamples p k (afterRead p .status s) = afterSamples p (k + 1) s := by
  simp [afterSamples, afterRead, portAddr, List.replicate_succ]

theorem afterRead_afterSamples (p : Config.Params) (k : Nat) (s : State) :
    afterRead p .data (afterSamples p k s) = afterDrain p k s := by
  simp [afterSamples, afterRead, afterDrain, portAddr]

/-! ## Polling -/

/-- A poll that no sample of its budget ends: every sample is dropped. -/
theorem poll_eq_none (p : Config.Params) (n : Nat) (s : State)
    (h : ∀ i < n, (statusAt p s i).getLsbD p.stObf = false) :
    poll p n s = (none, afterSamples p n s) := by
  induction n generalizing s with
  | zero => simp [poll, afterSamples_zero]
  | succ n ih =>
    have h0 := h 0 (Nat.succ_pos n)
    have hrest : ∀ i < n, (statusAt p (afterRead p .status s) i).getLsbD p.stObf = false :=
      fun i hi => by rw [statusAt_afterRead]; exact h (i + 1) (by omega)
    simp [poll, memRead, portAnswer_status, obfSet, h0, ih _ hrest, afterSamples_afterRead]

/-- A poll ended by sample `k`: that sample is returned, the `k + 1` samples are used up. -/
theorem poll_eq_some (p : Config.Params) (n k : Nat) (s : State) (hk : k < n)
    (hfull : (statusAt p s k).getLsbD p.stObf = true)
    (hbefore : ∀ i < k, (statusAt p s i).getLsbD p.stObf = false) :
    poll p n s = (some (statusAt p s k), afterSamples p (k + 1) s) := by
  induction n generalizing s k with
  | zero => omega
  | succ n ih =>
    cases k with
    | zero =>
      have hs : afterRead p .status s = afterSamples p 1 s := by
        rw [← afterSamples_afterRead, afterSamples_zero]
      simp [poll, memRead, portAnswer_status, obfSet, hfull, hs]
    | succ k =>
      have h0 := hbefore 0 (Nat.succ_pos k)
      have hk' : k < n := by omega
      have hfull' : (statusAt p (afterRead p .status s) k).getLsbD p.stObf = true := by
        rw [statusAt_afterRead]; exact hfull
      have hbefore' : ∀ i < k, (statusAt p (afterRead p .status s) i).getLsbD p.stObf = false :=
        fun i hi => by rw [statusAt_afterRead]; exact hbefore (i + 1) (by omega)
      simp [poll, memRead, portAnswer_status, obfSet, h0, ih k _ hk' hfull' hbefore',
        statusAt_afterRead, afterSamples_afterRead]

/-- Within a budget, either some sample is the first with output-buffer-full, or none has it. -/
theorem exists_first_or_never (f : Nat → Bool) (n : Nat) :
    (∃ k < n, f k = true ∧ ∀ i < k, f i = false) ∨ ∀ i < n, f i = false := by
  induction n with
  | zero => exact .inr fun i hi => absurd hi (Nat.not_lt_zero i)
  | succ n ih =>
    rcases ih with ⟨k, hk, hfull, hbefore⟩ | hnone
    · exact .inl ⟨k, by omega, hfull, hbefore⟩
    · cases hn : f n with
      | true => exact .inl ⟨n, Nat.lt_succ_self n, hn, hnone⟩
      | false =>
        refine .inr fun i hi => ?_
        rcases Nat.lt_succ_iff_lt_or_eq.mp hi with h | h
        · exact hnone i h
        · rw [h]; exact hn

/-! ## The drain -/

/-- A drain whose poll times out: no data read, no register written (R136). -/
theorem drain_of_neverFull {p : Config.Params} {s : State} (ch : Channel) (h : neverFull p s) :
    drain p ch s = (.error .pollTimeout, afterSamples p p.pollBudget s) := by
  simp [drain, poll_eq_none p p.pollBudget s h]

/-- A drain that finds output-buffer-full at sample `k`: one data read, then the validation (R133). -/
theorem drain_of_firstFull {p : Config.Params} {s : State} {k : Nat} (ch : Channel)
    (h : firstFull p s k) :
    drain p ch s =
      ((match validate p ch (statusAt p s k) with
        | some kind => .error kind
        | none => .ok (dataAt p s (k + 1))),
        recordLast ch (dataAt p s (k + 1)) (afterDrain p (k + 1) s)) := by
  obtain ⟨hk, hfull, hbefore⟩ := h
  simp only [drain, poll_eq_some p p.pollBudget k s hk hfull hbefore, memRead, portAnswer_data,
    dataAt_afterSamples, afterRead_afterSamples]
  cases validate p ch (statusAt p s k) <;> rfl

/-- A drain writes no parameter. -/
@[simp] theorem drain_config (p : Config.Params) (ch : Channel) (s : State) :
    (drain p ch s).2.config = s.config := by
  rcases exists_first_or_never (fun i => (statusAt p s i).getLsbD p.stObf) p.pollBudget with
    ⟨k, hk⟩ | hnone
  · rw [drain_of_firstFull ch hk]
    cases ch <;> rfl
  · rw [drain_of_neverFull ch hnone]
    rfl

/-! ## Output -/

/-- `emit` appends one word and changes nothing else. -/
theorem emit_eq (r : Record) (s : State) : emit r s = { s with out := s.out ++ [r.word] } := rfl

/-! ## The reassemblers and the gesture step -/

/-- The three things the scancode reassembler can do (R144). -/
theorem kbdReassemble_cases (p : Config.Params) (b : Byte) (s : State) :
    (b = p.extPrefix ∧ kbdReassemble p b s = armPrefix b s) ∨
    (b ≠ p.extPrefix ∧ s.kbdPending = true ∧
      kbdReassemble p b s = emit (.key (isMake p b) .two s.kbdPrefix b) (clearPending s)) ∨
    (b ≠ p.extPrefix ∧ s.kbdPending = false ∧
      kbdReassemble p b s = emit (.key (isMake p b) .one b 0x00#8) s) := by
  by_cases hb : b = p.extPrefix
  · exact .inl ⟨hb, by simp [kbdReassemble, hb]⟩
  · cases hp : s.kbdPending with
    | true => exact .inr (.inl ⟨hb, rfl, by simp [kbdReassemble, hb, hp]⟩)
    | false => exact .inr (.inr ⟨hb, rfl, by simp [kbdReassemble, hb, hp]⟩)

/-- The four things the packet reassembler can do (R180). -/
theorem mouseReassemble_cases (p : Config.Params) (b : Byte) (s : State) :
    (s.mouseSlot = .slot0 ∧ b.getLsbD p.syncBit = false ∧
      mouseReassemble p b s = emit (.discard .mouse .syncError) s) ∨
    (s.mouseSlot = .slot0 ∧ b.getLsbD p.syncBit = true ∧
      mouseReassemble p b s = captureByte0 p b s) ∨
    (s.mouseSlot = .slot1 ∧ mouseReassemble p b s = captureByte1 p b s) ∨
    (s.mouseSlot = .slot2 ∧ mouseReassemble p b s = packetComplete p (captureByte2 p b s)) := by
  cases hs : s.mouseSlot with
  | slot0 =>
    cases hb : b.getLsbD p.syncBit with
    | false => exact .inl ⟨rfl, rfl, by simp [mouseReassemble, hs, hb]⟩
    | true => exact .inr (.inl ⟨rfl, rfl, by simp [mouseReassemble, hs, hb]⟩)
  | slot1 => exact .inr (.inr (.inl ⟨rfl, by simp [mouseReassemble, hs]⟩))
  | slot2 => exact .inr (.inr (.inr ⟨rfl, by simp [mouseReassemble, hs]⟩))

/-- What the gesture step can do: nothing, a transition to one of four states from a state other than
COMPLETE, a stroke's accumulation, or the entry into COMPLETE with its record (R212). -/
theorem gestureStep_cases (p : Config.Params) (b : Buttons) (dx dy : Int) (s : State) :
    (gestureStep p b dx dy s = s ∧
      (s.gestState = .idle ∨ s.gestState = .apex ∨ s.gestState = .complete)) ∨
    (∃ g, g ≠ .complete ∧ s.gestState ≠ .complete ∧ gestureStep p b dx dy s = transition g s) ∨
    (s.gestState = .stroke1 ∧ gestureStep p b dx dy s =
      writeSums (addClampedBelow p s.xSum dx) (addClampedBelow p s.ySum dy) s) ∨
    (s.gestState = .stroke2 ∧ gestureStep p b dx dy s =
      writeSums (addClampedBelow p s.xSum dx) (addClampedAbove p s.ySum dy) s) ∨
    (s.gestState = .stroke2 ∧ gestureStep p b dx dy s =
      emit .gestureDone (transition .complete s)) := by
  cases hg : s.gestState with
  | idle =>
    simp only [gestureStep, hg]
    split
    · exact .inr (.inl ⟨.stroke1, by decide, by decide, rfl⟩)
    · exact .inl ⟨rfl, .inl trivial⟩
  | stroke1 =>
    simp only [gestureStep, hg, stepStrokeOne]
    split
    · split
      · exact .inr (.inl ⟨.idle, by decide, by decide, rfl⟩)
      · exact .inr (.inr (.inl ⟨trivial, rfl⟩))
    · split
      · split
        · exact .inr (.inl ⟨.apex, by decide, by decide, rfl⟩)
        · exact .inr (.inl ⟨.idle, by decide, by decide, rfl⟩)
      · exact .inr (.inl ⟨.idle, by decide, by decide, rfl⟩)
  | apex =>
    simp only [gestureStep, hg, stepApex]
    split
    · exact .inr (.inl ⟨.idle, by decide, by decide, rfl⟩)
    · split
      · exact .inr (.inl ⟨.stroke2, by decide, by decide, rfl⟩)
      · exact .inl ⟨rfl, .inr (.inl trivial)⟩
  | stroke2 =>
    simp only [gestureStep, hg, stepStrokeTwo]
    split
    · split
      · exact .inr (.inl ⟨.idle, by decide, by decide, rfl⟩)
      · exact .inr (.inr (.inr (.inl ⟨trivial, rfl⟩)))
    · split
      · split
        · exact .inr (.inr (.inr (.inr ⟨trivial, rfl⟩)))
        · exact .inr (.inl ⟨.idle, by decide, by decide, rfl⟩)
      · exact .inr (.inl ⟨.idle, by decide, by decide, rfl⟩)
  | complete => exact .inl ⟨by simp [gestureStep, hg], .inr (.inr rfl)⟩

/-! ## The handlers -/

/-- The keyboard handler is the drain's result handed on (R140). -/
theorem kbdHandler_of_drain {p : Config.Params} {s s' : State} {r : Except ErrorKind Byte}
    (h : drain p .kbd s = (r, s')) :
    kbdHandler p s = match r with
      | .error kind => emit (.discard .kbd kind) s'
      | .ok d => kbdReassemble p d s' := by
  cases r <;> simp [kbdHandler, h]

/-- The mouse handler is the drain's result handed on (R175). -/
theorem mouseHandler_of_drain {p : Config.Params} {s s' : State} {r : Except ErrorKind Byte}
    (h : drain p .mouse s = (r, s')) :
    mouseHandler p s = match r with
      | .error kind => emit (.discard .mouse kind) s'
      | .ok d => mouseReassemble p d s' := by
  cases r <;> simp [mouseHandler, h]

end Sys2Proof.Machine
end

