-- ==== Sys2Proof/Laws/PerInstr.lean ====
section
/-! SUPPORT. Per-instruction facts about the syntax. The family `EncodesItsRow`: the word of each
operation has the opcode and the zero reserved bits of its own row of R102. -/

namespace Sys2Proof.Laws

/-- The row of R102 that an operation belongs to. -/
def opOf : Instr → Op
  | .nop => .nop
  | .sub _ => .sub
  | .unsub _ => .unsub
  | .irq _ => .irq
  | .kbdInt => .kbdInt
  | .kbdReasm _ => .kbdReasm
  | .mouseInt => .mouseInt
  | .mouseReasm _ => .mouseReasm
  | .gestStep _ _ _ _ _ => .gestStep
  | .gestReset => .gestReset
  | .gestCfg _ _ => .gestCfg

/-- The word of format B matches its row's mask whatever the byte. -/
theorem formatB_masked (opcode b : Byte) :
    formatB opcode b &&& 0xFFFFFF00#32 = formatZ opcode := by
  apply BitVec.eq_of_getLsbD_eq
  intro i hi
  simp only [formatB, formatZ, BitVec.getLsbD_and, BitVec.getLsbD_or, BitVec.getLsbD_shiftLeft,
    BitVec.getLsbD_setWidth]
  interval_cases i <;> simp

/-- The word of format P matches its row's mask whatever the operands. -/
theorem formatP_masked (opcode : Byte) (lb rb mb : Bool) (dx dy : DeltaField) :
    formatP opcode lb rb mb dx dy &&& 0xFF000038#32 = formatZ opcode := by
  apply BitVec.eq_of_getLsbD_eq
  intro i hi
  simp only [formatP, formatZ, BitVec.getLsbD_and, BitVec.getLsbD_or, BitVec.getLsbD_shiftLeft,
    BitVec.getLsbD_setWidth]
  interval_cases i <;> simp

/-- The word of format G matches its row's mask whatever the operands. -/
theorem formatG_masked (opcode xLen tol : Byte) :
    formatG opcode xLen tol &&& 0xFFFF0000#32 = formatZ opcode := by
  apply BitVec.eq_of_getLsbD_eq
  intro i hi
  simp only [formatG, formatZ, BitVec.getLsbD_and, BitVec.getLsbD_or, BitVec.getLsbD_shiftLeft,
    BitVec.getLsbD_setWidth]
  interval_cases i <;> simp

/-- The operation's word selects a row of R102 that bears its name. -/
def EncodesItsRow.Statement (i : Instr) : Prop :=
  ∃ r ∈ rows, r.op = opOf i ∧ r.selects (encode i) = true

theorem EncodesItsRow.nop : EncodesItsRow.Statement .nop :=
  ⟨⟨.nop, 0x00000000#32, 0xFFFFFFFF#32⟩, by decide, rfl, by decide⟩

theorem EncodesItsRow.sub (ch : Channel) : EncodesItsRow.Statement (.sub ch) :=
  ⟨⟨.sub, 0x01000000#32, 0xFFFFFFFE#32⟩, by decide, rfl, by cases ch <;> decide⟩

theorem EncodesItsRow.unsub (ch : Channel) : EncodesItsRow.Statement (.unsub ch) :=
  ⟨⟨.unsub, 0x02000000#32, 0xFFFFFFFE#32⟩, by decide, rfl, by cases ch <;> decide⟩

theorem EncodesItsRow.irq (m : Byte) : EncodesItsRow.Statement (.irq m) :=
  ⟨⟨.irq, 0x03000000#32, 0xFFFFFF00#32⟩, by decide, rfl, by
    simp only [Row.selects, encode, formatB_masked]; decide⟩

theorem EncodesItsRow.kbdInt : EncodesItsRow.Statement .kbdInt :=
  ⟨⟨.kbdInt, 0x10000000#32, 0xFFFFFFFF#32⟩, by decide, rfl, by decide⟩

theorem EncodesItsRow.kbdReasm (b : Byte) : EncodesItsRow.Statement (.kbdReasm b) :=
  ⟨⟨.kbdReasm, 0x11000000#32, 0xFFFFFF00#32⟩, by decide, rfl, by
    simp only [Row.selects, encode, formatB_masked]; decide⟩

theorem EncodesItsRow.mouseInt : EncodesItsRow.Statement .mouseInt :=
  ⟨⟨.mouseInt, 0x20000000#32, 0xFFFFFFFF#32⟩, by decide, rfl, by decide⟩

theorem EncodesItsRow.mouseReasm (b : Byte) : EncodesItsRow.Statement (.mouseReasm b) :=
  ⟨⟨.mouseReasm, 0x21000000#32, 0xFFFFFF00#32⟩, by decide, rfl, by
    simp only [Row.selects, encode, formatB_masked]; decide⟩

theorem EncodesItsRow.gestStep (lb rb mb : Bool) (dx dy : Int) :
    EncodesItsRow.Statement (.gestStep lb rb mb dx dy) :=
  ⟨⟨.gestStep, 0x30000000#32, 0xFF000038#32⟩, by decide, rfl, by
    simp only [Row.selects, encode, formatP_masked]; decide⟩

theorem EncodesItsRow.gestReset : EncodesItsRow.Statement .gestReset :=
  ⟨⟨.gestReset, 0x31000000#32, 0xFFFFFFFF#32⟩, by decide, rfl, by decide⟩

theorem EncodesItsRow.gestCfg (xLen tol : Byte) : EncodesItsRow.Statement (.gestCfg xLen tol) :=
  ⟨⟨.gestCfg, 0x32000000#32, 0xFFFF0000#32⟩, by decide, rfl, by
    simp only [Row.selects, encode, formatG_masked]; decide⟩

end Sys2Proof.Laws
end

