-- ==== Sys2Proof/Machine/Assembler.lean ====
section
/-! DEFINITION. The spec's assembler syntax (R107) and the pseudo-instructions' expansions (R108).
No part of the machine's step calls this file. What R107 leaves open of the text (blanks, the case
of hex digits) is log 18. -/

namespace Sys2Proof.Machine

/-- R108's expansions. At the defaults of R9 they are the rows of R108. R108 writes numbers, 0x01 to
0x03 and 0xE0, and limits its `IRQ.*` rows to the default bits; that at other parameters the masks
are those of `IRQ_BIT_KBD` and `IRQ_BIT_MOUSE`, and that KBD_FEED2's first byte is `EXT_PREFIX` also
where that is not 0xE0, are the model's. DESIGN CHOICE (log 22). -/
def expandPseudo (p : Config.Params) : Pseudo → List Instr
  | .irqKbd => [.irq (1#8 <<< p.irqBitKbd)]
  | .irqMouse => [.irq (1#8 <<< p.irqBitMouse)]
  | .irqBoth => [.irq (1#8 <<< p.irqBitKbd ||| 1#8 <<< p.irqBitMouse)]
  | .subAll => [.sub .kbd, .sub .mouse]
  | .unsubAll => [.unsub .kbd, .unsub .mouse]
  | .kbdFeed2 b => [.kbdReasm p.extPrefix, .kbdReasm b]
  | .mouseFeed3 b0 b1 b2 => [.mouseReasm b0, .mouseReasm b1, .mouseReasm b2]
  | .gestInit xLen tol => [.gestCfg xLen tol, .gestReset]

/-! ## Text -/

/-- A blank inside a line. -/
def isBlank (c : Char) : Bool := c == ' ' || c == '\t' || c == '\r'

/-- The text without the blanks at its two ends. -/
def trimBlanks (cs : List Char) : List Char :=
  ((cs.dropWhile isBlank).reverse.dropWhile isBlank).reverse

/-- The pieces of a text between the separators. -/
def splitAtChar (sep : Char) : List Char → List (List Char)
  | [] => [[]]
  | c :: cs =>
    if c == sep then [] :: splitAtChar sep cs
    else
      match splitAtChar sep cs with
      | [] => [[c]]
      | piece :: pieces => (c :: piece) :: pieces

/-- The value of a digit in the given base. -/
def digitValue (base : Nat) (c : Char) : Option Nat :=
  let v :=
    if '0' ≤ c ∧ c ≤ '9' then some (c.toNat - '0'.toNat)
    else if 'a' ≤ c ∧ c ≤ 'f' then some (c.toNat - 'a'.toNat + 10)
    else if 'A' ≤ c ∧ c ≤ 'F' then some (c.toNat - 'A'.toNat + 10)
    else none
  v.filter fun n => decide (n < base)

/-- A run of digits in the given base, at least one, continuing the value `acc`. -/
def digitsFrom (base acc : Nat) : List Char → Option Nat
  | [] => some acc
  | c :: cs => (digitValue base c).bind fun d => digitsFrom base (acc * base + d) cs

/-- One or more digits. -/
def parseDigits (base : Nat) (cs : List Char) : Option Nat :=
  if cs.isEmpty then none else digitsFrom base 0 cs

/-- "in decimal or as `0x`-prefixed hex" (R107). -/
def parseNat : List Char → Option Nat
  | '0' :: 'x' :: hex => parseDigits 16 hex
  | cs => parseDigits 10 cs

/-- A byte operand: in range 0..255 (R103, R107). -/
def parseByte (cs : List Char) : Option Byte :=
  ((parseNat cs).filter fun n => decide (n < 256)).map (BitVec.ofNat 8)

/-- "signed decimals in −256..255" (R107). -/
def parseDelta (cs : List Char) : Option Int :=
  let v : Option Int :=
    match cs with
    | '-' :: digits => (parseDigits 10 digits).map fun n => -(n : Int)
    | digits => (parseDigits 10 digits).map fun n => (n : Int)
  v.filter inDeltaRange

/-- "`ch` is written `kbd`, `mouse`, `0` or `1`" (R107). -/
def parseChannel (cs : List Char) : Option Channel :=
  if cs = "kbd".toList ∨ cs = "0".toList then some .kbd
  else if cs = "mouse".toList ∨ cs = "1".toList then some .mouse
  else none

/-- Takes the letter off the front when it stands there. -/
def takeLetter (c : Char) : List Char → Bool × List Char
  | [] => (false, [])
  | d :: ds => if c == d then (true, ds) else (false, d :: ds)

/-- "`-` for no button, or the letters `L`, `R`, `M` in that order for each button held" (R107). -/
def parseButtons (cs : List Char) : Option (Bool × Bool × Bool) :=
  if cs = ['-'] then some (false, false, false)
  else if cs.isEmpty then none
  else
    let (l, cs1) := takeLetter 'L' cs
    let (r, cs2) := takeLetter 'R' cs1
    let (m, cs3) := takeLetter 'M' cs2
    if cs3.isEmpty then some (l, r, m) else none

/-! ## One line -/

/-- The operations without an operand, with the pseudo-instructions that have none (R107, R108). -/
def assembleNone (p : Config.Params) (mn : List Char) : Option (List Instr) :=
  if mn = "NOP".toList then some [.nop]
  else if mn = "KBD_INT".toList then some [.kbdInt]
  else if mn = "MOUSE_INT".toList then some [.mouseInt]
  else if mn = "GEST_RESET".toList then some [.gestReset]
  else if mn = "IRQ.KBD".toList then some (expandPseudo p .irqKbd)
  else if mn = "IRQ.MOUSE".toList then some (expandPseudo p .irqMouse)
  else if mn = "IRQ.BOTH".toList then some (expandPseudo p .irqBoth)
  else if mn = "SUB.ALL".toList then some (expandPseudo p .subAll)
  else if mn = "UNSUB.ALL".toList then some (expandPseudo p .unsubAll)
  else none

/-- The operations with one operand (R107, R108). -/
def assembleOne (p : Config.Params) (mn a : List Char) : Option (List Instr) :=
  if mn = "SUB".toList then (parseChannel a).map fun ch => [.sub ch]
  else if mn = "UNSUB".toList then (parseChannel a).map fun ch => [.unsub ch]
  else if mn = "IRQ".toList then (parseByte a).map fun m => [.irq m]
  else if mn = "KBD_REASM".toList then (parseByte a).map fun b => [.kbdReasm b]
  else if mn = "MOUSE_REASM".toList then (parseByte a).map fun b => [.mouseReasm b]
  else if mn = "KBD_FEED2".toList then (parseByte a).map fun b => expandPseudo p (.kbdFeed2 b)
  else none

/-- The operations with two operands (R107, R108). -/
def assembleTwo (p : Config.Params) (mn a b : List Char) : Option (List Instr) :=
  (parseByte a).bind fun x => (parseByte b).bind fun y =>
    if mn = "GEST_CFG".toList then some [.gestCfg x y]
    else if mn = "GEST_INIT".toList then some (expandPseudo p (.gestInit x y))
    else none

/-- The operations with three operands (R107, R108). -/
def assembleThree (p : Config.Params) (mn a b c : List Char) : Option (List Instr) :=
  if mn = "GEST_STEP".toList then
    (parseButtons a).bind fun k => (parseDelta b).bind fun dx => (parseDelta c).map fun dy =>
      [.gestStep k.1 k.2.1 k.2.2 dx dy]
  else if mn = "MOUSE_FEED3".toList then
    (parseByte a).bind fun b0 => (parseByte b).bind fun b1 => (parseByte c).map fun b2 =>
      expandPseudo p (.mouseFeed3 b0 b1 b2)
  else none

/-- One line, `MNEMONIC operands`, the operands separated by commas; a comment starts with `;`, and a
line of nothing else assembles to nothing (R107). -/
def assembleLine (p : Config.Params) (line : List Char) : Option (List Instr) :=
  let text := trimBlanks (line.takeWhile fun c => c != ';')
  if text.isEmpty then some []
  else
    let mn := text.takeWhile fun c => !isBlank c
    let rest := trimBlanks (text.dropWhile fun c => !isBlank c)
    if rest.isEmpty then assembleNone p mn
    else
      match (splitAtChar ',' rest).map trimBlanks with
      | [a] => assembleOne p mn a
      | [a, b] => assembleTwo p mn a b
      | [a, b, c] => assembleThree p mn a b c
      | _ => none

/-- The operations of a list of lines, in order; nothing when a line is not in R107's syntax. -/
def assembleLines (p : Config.Params) : List (List Char) → Option (List Instr)
  | [] => some []
  | line :: lines =>
    (assembleLine p line).bind fun is => (assembleLines p lines).map fun js => is ++ js

/-- A program's text, "one operation per line" (R107). -/
def assemble (p : Config.Params) (text : String) : Option (List Instr) :=
  assembleLines p (splitAtChar '\n' text.toList)

end Sys2Proof.Machine
end

