-- ==== Sys2Proof/Tests/Slice0.lean ====
section
/-! SUPPORT. Tests of one step each, with expected values from 95_test_vectors.md and from the rules,
the checks' refusals, and a witness for the hypotheses of each statement that has some. -/

namespace Sys2Proof.Tests

open Sys2Proof.Machine Sys2Proof.Safety

/-! ## The checks refuse what is ill-formed -/

theorem test_wellFormed_accepts_limits :
    (Instr.gestStep true false false (-256) 255).wellFormed = true := by decide
theorem test_wellFormed_refuses_dx_high :
    (Instr.gestStep true false false 256 0).wellFormed = false := by decide
theorem test_wellFormed_refuses_dx_low :
    (Instr.gestStep true false false (-257) 0).wellFormed = false := by decide
theorem test_wellFormed_refuses_dy_high :
    (Instr.gestStep true false false 0 256).wellFormed = false := by decide
theorem test_wellFormed_refuses_dy_low :
    (Instr.gestStep true false false 0 (-257)).wellFormed = false := by decide
/-- The default column of R9. -/
theorem test_default_parameters :
    State.reset.config =
      { pollBudget := 10, pollIntervalMs := 20, extPrefix := 0xE0#8, breakBit := 7, syncBit := 3,
        xsignBit := 4, ysignBit := 5, lbBit := 0, rbBit := 1, mbBit := 2, xovBit := 6, yovBit := 7,
        stObf := 0, stIbf := 1, stAux := 5, stTimeout := 6, stParity := 7, statusPort := 0x64#16,
        dataPort := 0x60#16, irqBitKbd := 0, irqBitMouse := 1, deltaWidth := 9, sumWidth := 32,
        paramWidth := 8, opWidth := 32 } := rfl
theorem test_params_refuse_zero_width :
    Config.Params.wellFormed { params with sumWidth := 0 } = false ∧
      Config.Params.wellFormed { params with opWidth := 0 } = false := by decide
theorem test_params_meet_constraints : params.wellFormed = true := by decide
theorem test_params_refuse_zero_budget :
    Config.Params.wellFormed { params with pollBudget := 0 } = false := by decide
theorem test_params_refuse_break_bit_8 :
    Config.Params.wellFormed { params with breakBit := 8 } = false := by decide
theorem test_params_refuse_shared_mouse_bit :
    Config.Params.wellFormed { params with mbBit := 3 } = false := by decide
theorem test_params_refuse_shared_status_bit :
    Config.Params.wellFormed { params with stAux := 0 } = false := by decide
theorem test_params_refuse_same_irq_bit :
    Config.Params.wellFormed { params with irqBitMouse := 0 } = false := by decide
theorem test_params_refuse_irq_bit_8 :
    Config.Params.wellFormed { params with irqBitMouse := 8 } = false := by decide

/-! ## Decoding, on words written out bit by bit from R97 to R102 -/

theorem test_decode_nop : decode 0b00000000000000000000000000000000#32 = .ok .nop := by decide
theorem test_decode_sub : decode 0b00000001000000000000000000000001#32 = .ok (.sub .mouse) := by
  decide
theorem test_decode_unsub :
    decode 0b00000010000000000000000000000000#32 = .ok (.unsub .kbd) := by decide
theorem test_decode_irq : decode 0b00000011000000000000000010000001#32 = .ok (.irq 0x81#8) := by
  decide
theorem test_decode_kbdInt : decode 0b00010000000000000000000000000000#32 = .ok .kbdInt := by decide
theorem test_decode_kbdReasm :
    decode 0b00010001000000000000000011100000#32 = .ok (.kbdReasm 0xE0#8) := by decide
theorem test_decode_mouseInt :
    decode 0b00100000000000000000000000000000#32 = .ok .mouseInt := by decide
theorem test_decode_mouseReasm :
    decode 0b00100001000000000000000000000111#32 = .ok (.mouseReasm 0x07#8) := by decide
/-- R107: `GEST_STEP L, 5, -3` is dy 111111101, dx 000000101, reserved 000, mb 0, rb 0, lb 1. -/
theorem test_decode_gestStep :
    decode 0b00110000111111101000000101000001#32 = .ok (.gestStep true false false 5 (-3)) := by
  decide
/-- E8: dx −256 and dy 255. -/
theorem test_decode_gestStep_limits :
    decode 0x307FC000#32 = .ok (.gestStep false false false (-256) 255) := by decide
theorem test_decode_gestReset :
    decode 0b00110001000000000000000000000000#32 = .ok .gestReset := by decide
theorem test_decode_gestCfg :
    decode 0b00110010000000000000001000001010#32 = .ok (.gestCfg 10#8 2#8) := by decide
/-- E11 and E17: unassigned opcodes. -/
theorem test_decode_unassigned :
    decode 0x04000000#32 = .error .unassignedOpcode ∧
      decode 0xFFFFFFFF#32 = .error .unassignedOpcode := by decide
/-- E12 to E16: one reserved bit of each format. -/
theorem test_decode_reserved :
    decode 0x00000001#32 = .error .reservedBit ∧ decode 0x01000002#32 = .error .reservedBit ∧
      decode 0x03000100#32 = .error .reservedBit ∧ decode 0x30000008#32 = .error .reservedBit ∧
      decode 0x32010000#32 = .error .reservedBit := by decide
theorem test_encode_gestStep :
    encode (.gestStep true true true (-1) (-1)) = 0x30FFFFC7#32 := by decide
theorem test_rows_disjoint :
    rows.Pairwise fun a b => a.pattern &&& (a.mask &&& b.mask) ≠ b.pattern &&& (a.mask &&& b.mask) :=
  by decide
theorem test_decodeTableWord : decodeTableWord 32 0x110000E0 = some (.kbdReasm 0xE0#8) := by decide

/-! ## Assembler (R107's examples, R108's expansions) -/

theorem test_assemble_examples :
    (assemble params "SUB kbd").map (List.map encode) = some [0x01000000#32] ∧
      (assemble params "KBD_REASM 0xE0").map (List.map encode) = some [0x110000E0#32] ∧
      (assemble params "GEST_STEP L, 5, -3 ; stroke").map (List.map encode) = some [0x30FE8141#32] ∧
      (assemble params "GEST_CFG 10, 2").map (List.map encode) = some [0x3200020A#32] := by decide
theorem test_assemble_pseudo :
    assemble params "IRQ.BOTH" = some [.irq 0x03#8] ∧
      assemble params "GEST_INIT 10, 2" = some [.gestCfg 10#8 2#8, .gestReset] ∧
      assemble params "KBD_FEED2 0x48" = some [.kbdReasm 0xE0#8, .kbdReasm 0x48#8] := by decide
theorem test_assemble_refuses :
    assemble params "GEST_STEP L, 256, 0" = none ∧ assemble params "KBD_REASM 256" = none ∧
      assemble params "GEST_STEP ML, 0, 0" = none ∧ assemble params "NOP 1" = none := by decide
theorem test_expand_subAll : expandPseudo params .subAll = [.sub .kbd, .sub .mouse] := by decide
theorem test_expand_mouseFeed3 (b0 b1 b2 : Byte) : expandPseudo params (.mouseFeed3 b0 b1 b2) =
    [.mouseReasm b0, .mouseReasm b1, .mouseReasm b2] := rfl

/-! ## One step of each operation -/

/-- The state a step answers, where it answers one. -/
def nextOf (o : Host.Outcome State Fault Refusal) : Option State :=
  match o with
  | .next t => some t
  | .fault _ => none
  | .refused _ => none

/-- A state with the given answers of the environment and all else as after reset. -/
def withAnswers (statusIn dataIn : List Byte) : State :=
  { State.reset with statusIn := statusIn, dataIn := dataIn }

/-- A state in the given gesture state and sums, with `GEST_CFG 10, 2` in force. -/
def inGesture (g : GestState) (x y : Int) : State :=
  { State.reset with
    gestState := g, xSum := x, ySum := y, gestXLen := 10, gestTol := 2 }

theorem test_nop : exec .nop State.reset = .next State.reset := rfl
/-- DP1. -/
theorem test_sub : (nextOf (exec (.sub .kbd) State.reset)).map State.sub = some 0b01#2 := by decide
/-- DP3. -/
theorem test_unsub :
    (nextOf (exec (.unsub .mouse) { State.reset with sub := 0b11#2 })).map State.sub =
      some 0b01#2 := by decide
/-- DP7: the keyboard's WrongOrigin does not stop the mouse handler. -/
theorem test_irq_both :
    (nextOf (exec (.irq 0x03#8)
        { withAnswers [0x21#8, 0x21#8] [0x2A#8, 0x08#8] with sub := 0b11#2 })).map
      (fun t => (t.out, t.mouseSlot, t.dataIn)) = some ([0x84000004#32], .slot1, []) := by decide
/-- DP6: the mouse is not subscribed. -/
theorem test_irq_unsubscribed :
    (nextOf (exec (.irq 0x03#8)
        { withAnswers [0x01#8, 0x21#8] [0x1E#8] with sub := 0b01#2 })).map
      (fun t => (t.out, t.statusIn)) = some ([0x8101001E#32], [0x21#8]) := by decide
/-- K1. -/
theorem test_kbdInt :
    (nextOf (exec .kbdInt (withAnswers [0x00#8, 0x01#8] [0x1E#8]))).map
      (fun t => (t.out, t.kbdLast, t.portReads)) =
        some ([0x8101001E#32], 0x1E#8, [0x64#16, 0x64#16, 0x60#16]) := by decide
/-- K3: parity comes before the wrong origin, and `KBD_LAST` takes the byte. -/
theorem test_kbdInt_parity :
    (nextOf (exec .kbdInt (withAnswers [0xA1#8] [0x9E#8]))).map (fun t => (t.out, t.kbdLast)) =
      some ([0x84000002#32], 0x9E#8) := by decide
/-- S1. -/
theorem test_kbdReasm_break :
    (nextOf (exec (.kbdReasm 0x80#8) State.reset)).map State.out = some [0x81000080#32] := by decide
/-- S2. -/
theorem test_kbdReasm_pair :
    (nextOf (exec (.kbdReasm 0xC8#8)
        { State.reset with kbdPending := true, kbdPrefix := 0xE0#8 })).map
      (fun t => (t.out, t.kbdPending, t.kbdPrefix)) = some ([0x8102C8E0#32], false, 0xE0#8) := by
  decide
/-- M1. -/
theorem test_mouseInt :
    (nextOf (exec .mouseInt (withAnswers [0x21#8] [0x08#8]))).map
      (fun t => (t.out, t.mouseSlot, t.mouseB0)) = some ([], .slot1, 0x08#8) := by decide
/-- M2. -/
theorem test_mouseInt_wrongOrigin :
    (nextOf (exec .mouseInt (withAnswers [0x01#8] [0x08#8]))).map
      (fun t => (t.out, t.mouseSlot, t.dataIn)) = some ([0x84000104#32], .slot0, []) := by decide
/-- S3, third byte of 0x28, 0x05, 0xF0. -/
theorem test_mouseReasm_third :
    (nextOf (exec (.mouseReasm 0xF0#8)
        { State.reset with
          mouseSlot := .slot2, mouseB0 := 0x28#8, mouseB1 := 0x05#8, mouseYS := true,
          mouseDX := 5 })).map
      (fun t => (t.out, t.mouseSlot, t.mouseDY)) = some ([0x82F00528#32], .slot0, -16) := by
  decide
/-- M12, second byte. -/
theorem test_mouseReasm_second :
    (nextOf (exec (.mouseReasm 0xFB#8)
        { State.reset with mouseSlot := .slot1, mouseB0 := 0x18#8, mouseXS := true })).map
      (fun t => (t.mouseB1, t.mouseDX, t.mouseSlot)) = some (0xFB#8, -5, .slot2) := by decide
/-- G23. -/
theorem test_gestStep_completes :
    (nextOf (exec (.gestStep false false false 0 0) (inGesture .stroke2 10 (-11)))).map
      (fun t => (t.gestState, t.xSum, t.ySum, t.out)) =
        some (.complete, 0, 0, [0x83000000#32]) := by decide
/-- G29: the sum wraps to −2147483493 and is clamped. -/
theorem test_gestStep_wraps :
    (nextOf (exec (.gestStep true false false 255 0) (inGesture .stroke1 2147483548 0))).map
      (fun t => (t.gestState, t.xSum, t.ySum)) = some (.stroke1, 0, 0) := by decide
/-- G33. -/
theorem test_gestReset :
    (nextOf (exec .gestReset (inGesture .complete 0 0))).map
      (fun t => (t.gestState, t.gestXLen)) = some (.idle, 10) := by decide
/-- G34: the sums are kept. -/
theorem test_gestCfg :
    (nextOf (exec (.gestCfg 8#8 3#8) (inGesture .stroke1 8 20))).map
      (fun t => (t.gestXLen, t.gestTol, t.xSum, t.ySum)) = some (8, 3, 8, 20) := by decide

/-! ## The step -/

/-- E11 as a step. -/
theorem test_step_illegal :
    (nextOf (step (State.reset.withFetchWord 32 0x04000000))).map (fun t => (t.out, t.inputs)) =
      some ([0x84000206#32], []) := by decide
theorem test_step_word :
    (nextOf (step (State.reset.withFetchWord 32 0x3200020A))).map
      (fun t => (t.gestXLen, t.gestTol)) = some (10, 2) := by decide
/-- The step follows the state's parameters and not the defaults: a prefix of 0xE1, a break bit 6. -/
theorem test_step_other_parameters :
    (nextOf (step { (State.reset.withFetchWord 32 0x11000048) with
        config := { params with extPrefix := 0xE1#8, breakBit := 6 }, kbdPending := true,
        kbdPrefix := 0xE1#8 })).map State.out = some [0x810248E1#32] := by decide
/-- Eight-bit operands into thresholds of four bits (log 9). -/
theorem test_step_narrow_thresholds :
    (nextOf (exec (.gestCfg 0x5A#8 0x03#8)
        { State.reset with config := { params with paramWidth := 4 } })).map
      (fun t => (t.gestXLen, t.gestTol)) = some (10, 3) := by decide
theorem test_step_idle : step State.reset = .next State.reset := rfl
theorem test_step_reset :
    (nextOf (step { inGesture .complete 0 0 with inputs := [.reset], out := [0x83000000#32] })).map
      (fun t => (t.gestState, t.gestTol, t.out)) = some (.idle, 0, []) := by decide

/-! ## Witnesses: for each statement with hypotheses, a state and operands that meet them -/

/-- A state whose only pending input is the given one. -/
def withInput (i : Input) : State := { State.reset with inputs := [i] }

theorem witness_DecodeEncodeRoundTrip :
    (Instr.gestStep false true false (-256) 255).wellFormed = true := by decide
theorem witness_DecodedWordIsItsEncoding :
    decode 0x307FC000#32 = .ok (.gestStep false false false (-256) 255) := by decide
theorem witness_IllegalWordOnlyDiscards :
    let s := withInput (.word 0x04000000)
    s.inputs = .word 0x04000000 :: [] ∧
      decodeCommand s.config 0x04000000 = .error .unassignedOpcode ∧ params.opWidth = 32 := by decide
/-- R104's two cases and their neighbours. -/
theorem test_illegalWord :
    illegalWord 0x04000000 = true ∧ illegalWord 0x30000008 = true ∧ illegalWord 0x03000100 = true ∧
      illegalWord 0x30FFFFC7 = false ∧ illegalWord 0x030000FF = false := by decide
theorem witness_PacketFieldsFromBytes : 9 ≤ params.deltaWidth := by decide
theorem witness_StepRunsDecodedOperation :
    (withInput (.word 0x110000E0)).inputs = .word 0x110000E0 :: [] ∧
      decodeCommand params 0x110000E0 = .ok (.kbdReasm 0xE0#8) := by decide
theorem witness_IdleStepKeepsState : State.reset.inputs = [] := rfl
theorem witness_ResetInputRestoresRegisters : (withInput .reset).inputs = .reset :: [] := rfl
theorem witness_OutputOnlyGrows :
    exec (.sub .kbd) State.reset = .next { State.reset with sub := 0b01#2 } := rfl
theorem witness_SubReadOnlyByIrq_writes :
    exec (.sub .kbd) State.reset = .next { State.reset with sub := 0b01#2 } ∧
      ({ State.reset with sub := 0b01#2 } : State).sub ≠ State.reset.sub := ⟨rfl, by decide⟩
theorem witness_SubReadOnlyByIrq_reads :
    (∀ m, Instr.kbdReasm 0xE0#8 ≠ .irq m) ∧ (∀ ch, Instr.kbdReasm 0xE0#8 ≠ .sub ch) ∧
      (∀ ch, Instr.kbdReasm 0xE0#8 ≠ .unsub ch) ∧
      exec (.kbdReasm 0xE0#8) State.reset =
        .next { State.reset with kbdPrefix := 0xE0#8, kbdPending := true } :=
  ⟨nofun, nofun, nofun, rfl⟩
theorem witness_IrqKeyboardRecordsFirst :
    let s : State := { State.reset with sub := 0b11#2 }
    (0xFF#8).getLsbD s.config.irqBitKbd = true ∧ (0xFF#8).getLsbD s.config.irqBitMouse = true ∧
      s.sub = 0b11#2 := by decide
theorem witness_IrqIgnoresOtherBits_unsubscribed :
    let s := State.reset
    ((0x03#8).getLsbD s.config.irqBitKbd = true → s.sub.getLsbD 0 = false) ∧
      ((0x03#8).getLsbD s.config.irqBitMouse = true → s.sub.getLsbD 1 = false) := by decide
/-- Two masks that differ in the unsubscribed mouse's bit and in bits 2 to 7. -/
theorem witness_IrqIgnoresOtherBits_masks :
    let s : State := { State.reset with sub := 0b01#2 }
    (s.sub.getLsbD 0 = true →
        (0xFF#8).getLsbD s.config.irqBitKbd = (0x01#8).getLsbD s.config.irqBitKbd) ∧
      (s.sub.getLsbD 1 = true →
        (0xFF#8).getLsbD s.config.irqBitMouse = (0x01#8).getLsbD s.config.irqBitMouse) := by decide
theorem witness_DrainReadsPorts : 1 ≤ params.pollBudget := by decide

/-- Ten samples without output-buffer-full (K2). -/
def neverFullState : State := withAnswers (List.replicate 10 0xFE#8) []

theorem witness_neverFull : neverFull params neverFullState := by
  unfold neverFull; decide

/-- Two samples without output-buffer-full and a third with it and the given other bits. -/
def thirdFullState (st : Byte) : State := withAnswers [0xC0#8, 0xE0#8, st] [0x1E#8]

/-- The last sample the budget allows (K7). -/
def tenthFullState : State := withAnswers (List.replicate 9 0x00#8 ++ [0x01#8]) [0x2A#8]

theorem witness_firstFull_tenth : firstFull params tenthFullState 9 := by
  unfold firstFull; decide
theorem witness_KbdIntHandsOnGoodByte :
    firstFull params (thirdFullState 0x01#8) 2 ∧
      (statusAt params (thirdFullState 0x01#8) 2).getLsbD params.stParity = false ∧
      (statusAt params (thirdFullState 0x01#8) 2).getLsbD params.stTimeout = false ∧
      (statusAt params (thirdFullState 0x01#8) 2).getLsbD params.stAux = false := by
  unfold firstFull; decide
theorem witness_KbdIntDiscardsBadByte :
    firstFull params (thirdFullState 0x21#8) 2 ∧
      (statusAt params (thirdFullState 0x21#8) 2).getLsbD params.stAux = true := by
  unfold firstFull; decide
theorem witness_MouseIntHandsOnGoodByte :
    firstFull params (thirdFullState 0x21#8) 2 ∧
      (statusAt params (thirdFullState 0x21#8) 2).getLsbD params.stParity = false ∧
      (statusAt params (thirdFullState 0x21#8) 2).getLsbD params.stTimeout = false ∧
      (statusAt params (thirdFullState 0x21#8) 2).getLsbD params.stAux = true := by
  unfold firstFull; decide
theorem witness_MouseIntDiscardsBadByte :
    firstFull params (thirdFullState 0x01#8) 2 ∧
      (statusAt params (thirdFullState 0x01#8) 2).getLsbD params.stAux = false := by
  unfold firstFull; decide
theorem witness_PrefixSurvivesFailedDrain_fails :
    drain params .kbd
        { thirdFullState 0x81#8 with kbdPending := true, kbdPrefix := 0xE0#8 } =
      (.error .parityError,
        { thirdFullState 0x81#8 with
          kbdPending := true, kbdPrefix := 0xE0#8, kbdLast := 0x1E#8, statusIn := [],
          dataIn := [], portReads := [0x64#16, 0x64#16, 0x64#16, 0x60#16] }) := by decide
theorem witness_PrefixSurvivesFailedDrain_pairs :
    ({ thirdFullState 0x01#8 with kbdPending := true } : State).kbdPending = true ∧
      drain params .kbd { thirdFullState 0x01#8 with kbdPending := true } =
        (.ok 0x1E#8,
          { thirdFullState 0x01#8 with
            kbdPending := true, kbdLast := 0x1E#8, statusIn := [], dataIn := [],
            portReads := [0x64#16, 0x64#16, 0x64#16, 0x60#16] }) ∧ 0x1E#8 ≠ 0xE0#8 := by decide
theorem witness_KbdLastIsLastByteRead :
    (nextOf (exec .kbdInt tenthFullState)).map State.kbdLast = some 0x2A#8 ∧
      tenthFullState.kbdLast ≠ 0x2A#8 := by decide
theorem witness_IgnoredStatusBitsDoNotMatter :
    List.Forall₂ (fun a b : Byte =>
      a.getLsbD params.stObf = b.getLsbD params.stObf ∧
        (a.getLsbD params.stObf = true →
          a.getLsbD params.stAux = b.getLsbD params.stAux ∧
          a.getLsbD params.stTimeout = b.getLsbD params.stTimeout ∧
          a.getLsbD params.stParity = b.getLsbD params.stParity)) (thirdFullState 0x01#8).statusIn
      [0x00#8, 0x1E#8, 0x1F#8] :=
  .cons (by decide) (.cons (by decide) (.cons (by decide) .nil))
theorem witness_RepeatedPrefixRearms :
    let s : State := { State.reset with kbdPending := true }
    s.kbdPending = true ∧ s.config = params ∧ 0x48#8 ≠ s.config.extPrefix := by decide
theorem witness_KeyRecordsCountBytes :
    let s : State := { State.reset with kbdPending := true, kbdPrefix := 0xE0#8 }
    s.kbdPending = true → s.kbdPrefix = s.config.extPrefix := by decide
theorem witness_KeyboardStateSurvivesOtherOps :
    ∀ i ∈ [Instr.sub .mouse, .mouseInt, .irq 0xFE#8], touchesKeyboard params i = false := by decide
theorem witness_SlotZeroTakesSyncByte :
    State.reset.mouseSlot = .slot0 ∧ (0x08#8).getLsbD params.syncBit = true := by decide
theorem witness_SlotZeroRejectsUnsyncedByte :
    State.reset.mouseSlot = .slot0 ∧ (0xF7#8).getLsbD params.syncBit = false := by decide
theorem witness_SlotOneTakesDeltaX :
    ({ State.reset with mouseSlot := .slot1 } : State).mouseSlot = .slot1 ∧
      9 ≤ State.reset.config.deltaWidth := by decide
theorem witness_SlotTwoCompletesPacket :
    ({ State.reset with mouseSlot := .slot2 } : State).mouseSlot = .slot2 ∧
      9 ≤ State.reset.config.deltaWidth := by decide
theorem witness_ResynchronizationLaw :
    State.reset.mouseSlot = .slot0 ∧ 9 ≤ State.reset.config.deltaWidth ∧
      (0x00#8).getLsbD params.syncBit = false ∧ (0x18#8).getLsbD params.syncBit = true := by
  decide
theorem witness_MouseStateSurvivesOtherOps :
    ∀ i ∈ [Instr.unsub .kbd, .kbdInt, .irq 0xFD#8], touchesMouse params i = false := by decide
theorem witness_OverflowBitsOnlyRecorded :
    State.reset.mouseSlot = .slot0 ∧ (0x08#8).getLsbD params.syncBit = true ∧
      State.reset.config.wellFormed = true ∧
      ∀ n < 8, n ≠ State.reset.config.xovBit → n ≠ State.reset.config.yovBit →
        (0xC8#8).getLsbD n = (0x08#8).getLsbD n := by decide

/-- The hypotheses of `StrokeAccumulatesExactly`, with `dx` and `dy` at their bound −tol (G5). -/
theorem witness_StrokeAccumulatesExactly_one :
    let s := inGesture .stroke1 3 4
    fitsSigned s.config.sumWidth (s.xSum + -2) ∧ fitsSigned s.config.sumWidth (s.ySum + -2) ∧
      -(s.gestTol : Int) ≤ -2 ∧ s.gestState = .stroke1 := by
  unfold fitsSigned; decide
/-- The second clause, with `dy` at its bound tol (G20). -/
theorem witness_StrokeAccumulatesExactly_two :
    let s := inGesture .stroke2 4 (-5)
    fitsSigned s.config.sumWidth (s.xSum + -2) ∧ fitsSigned s.config.sumWidth (s.ySum + 2) ∧
      -(s.gestTol : Int) ≤ -2 ∧ s.gestState = .stroke2 ∧ (2 : Int) ≤ s.gestTol := by
  unfold fitsSigned; decide

/-- States whose registers fit: the sums are at an end of their range. -/
theorem registersFit_inGesture (g : GestState) :
    RegistersFit (inGesture g 2147483647 2147483647) ∧
      RegistersFit (inGesture g 2147483647 (-2147483648)) := by
  constructor <;> constructor <;> simp only [inGesture, fitsSigned] <;> decide

/-- G29, both sums at the end of their range. -/
theorem witness_SumOverflowClampsToZero_one :
    let s := inGesture .stroke1 2147483647 2147483647
    (-(s.gestTol : Int)) ≤ 1 ∧ s.gestState = .stroke1 ∧ RegistersFit s ∧
      9 ≤ s.config.sumWidth ∧ 2 ^ s.config.sumWidth ≤ 2 * (s.xSum + 1) ∧
      2 ^ s.config.sumWidth ≤ 2 * (s.ySum + 255) :=
  ⟨by decide, rfl, (registersFit_inGesture _).1, by decide, by decide, by decide⟩
/-- G30, both sums at the end of their range. -/
theorem witness_SumOverflowClampsToZero_two :
    let s := inGesture .stroke2 2147483647 (-2147483648)
    (-(s.gestTol : Int)) ≤ 1 ∧ s.gestState = .stroke2 ∧ (-1 : Int) ≤ s.gestTol ∧ RegistersFit s ∧
      9 ≤ s.config.sumWidth ∧ 2 ^ s.config.sumWidth ≤ 2 * (s.xSum + 1) ∧
      2 * (s.ySum + -1) < -2 ^ s.config.sumWidth :=
  ⟨by decide, rfl, by decide, (registersFit_inGesture _).2, by decide, by decide, by decide⟩
theorem witness_CompleteIsTerminal :
    let s : State := { inGesture .complete 0 0 with inputs := [.word 0x31000000] }
    s.gestState = .complete ∧ step s = .next (inGesture .idle 0 0) ∧
      (inGesture .idle 0 0).gestState ≠ .complete := ⟨rfl, rfl, by decide⟩
theorem witness_GestureDoneOnceOnCompletion :
    exec (.gestStep false false false 0 0) (inGesture .stroke2 10 (-11)) =
      .next { inGesture .complete 0 0 with out := [0x83000000#32] } := rfl
theorem witness_GestCfgWritesParameters : 8 ≤ State.reset.config.paramWidth := by decide
theorem witness_invariant_stroke : Invariant (inGesture .stroke2 10 (-11)) := by
  constructor <;> decide
theorem witness_invariant_packet :
    Invariant { State.reset with mouseSlot := .slot2, mouseB0 := 0x18#8, mouseXS := true } :=
  by constructor <;> decide
theorem witness_MiddleButtonReturnsToIdle :
    Invariant (inGesture .stroke2 10 (-11)) ∧
      (inGesture .stroke2 10 (-11)).gestState ≠ .complete ∧
      Invariant (inGesture .complete 0 0) :=
  ⟨witness_invariant_stroke, by decide, by constructor <;> decide⟩
theorem witness_GestureStateHasFewWriters :
    (∀ lb rb mb dx dy, Instr.mouseReasm 0x00#8 ≠ .gestStep lb rb mb dx dy) ∧
      Instr.mouseReasm 0x00#8 ≠ .gestReset ∧
      (nextOf (exec (.mouseReasm 0x00#8)
        { State.reset with mouseSlot := .slot2, mouseB0 := 0x09#8 })).map State.gestState =
          some .stroke1 := ⟨nofun, nofun, by decide⟩
theorem witness_EveryStepKeepsInvariants :
    let s : State := { inGesture .stroke2 10 (-11) with inputs := [.word 0x30000000] }
    Invariant s ∧
      step s = .next { inGesture .complete 0 0 with out := [0x83000000#32] } :=
  ⟨by constructor <;> decide, rfl⟩
theorem witness_ReachableStatesMeetInvariants :
    Reachable
      { State.reset with
        config := { params with pollBudget := 3, extPrefix := 0xE1#8, sumWidth := 16 },
        inputs := [.word 0x110000E1], statusIn := [], dataIn := [] } :=
  .start _ _ _ _ (by decide)
theorem witness_EveryStepKeepsOutputAllowed :
    let s : State := { State.reset with inputs := [.word 0x11000080], out := [0x83000000#32] }
    Invariant s ∧ outputAllowed s ∧
      step s = .next { State.reset with out := [0x83000000#32, 0x81000080#32] } :=
  ⟨by constructor <;> decide,
    fun w hw => ⟨.gestureDone, rfl, by simpa using hw⟩, rfl⟩

/-- A stroke's accumulation at a sum width of 16, past the end of its range. -/
theorem witness_EveryStepKeepsWidths :
    let s : State :=
      { inGesture .stroke1 32767 0 with
        config := { params with sumWidth := 16 }, inputs := [.word 0x30008081] }
    RegistersFit s ∧ step s = .next { s with xSum := 0, ySum := 1, inputs := [] } := by
  refine ⟨?_, rfl⟩
  constructor <;> simp only [inGesture, fitsSigned] <;> decide

end Sys2Proof.Tests
end

section
/-! PROOFS. R49's invariants along every run: each register update keeps them, hence each shared
operation, each instruction and each step. -/

namespace Sys2Proof.Safety

open Sys2Proof.Machine

/-! ## Reset -/

theorem slot_value_legal (k : Slot) : k.value ∈ [0#2, 1#2, 2#2] := by
  cases k <;> decide

theorem gestState_value_legal (g : GestState) : g.value ∈ [0#3, 1#3, 2#3, 3#3, 4#3] := by
  cases g <;> decide

/-- The reset registers meet the invariants whatever the parameters and the outside are: nothing is
pending, no packet is open, and IDLE's sums are 0. -/
theorem invariant_of_resetRegisters (config : Config.Params) (inputs : List Input)
    (statusIn dataIn : List Byte) (portReads : List PortAddr) :
    Invariant
      { State.reset with
        config := config, inputs := inputs, statusIn := statusIn, dataIn := dataIn,
        portReads := portReads } where
  prefixStored := nofun
  slotLegal := slot_value_legal _
  packetOpen hopen := absurd rfl hopen
  gestLegal := gestState_value_legal _
  sumsZero _ _ := ⟨rfl, rfl⟩
  strokeOneSums := nofun
  strokeTwoSums := nofun

theorem invariant_blockReset (s : State) : Invariant (blockReset s) :=
  invariant_of_resetRegisters s.config s.inputs s.statusIn s.dataIn s.portReads

section InvariantKept

variable {p : Config.Params} {s : State}

/-! ## Updates that write no register of the invariants -/

theorem invariant_withInputs (inputs : List Input) (h : Invariant s) :
    Invariant { s with inputs := inputs } := { h with }

theorem invariant_emit (r : Record) (h : Invariant s) : Invariant (emit r s) := { h with }

theorem invariant_setSub (ch : Channel) (h : Invariant s) : Invariant (setSub ch s) := { h with }

theorem invariant_clearSub (ch : Channel) (h : Invariant s) : Invariant (clearSub ch s) :=
  { h with }

theorem invariant_writeParams (xLen tol : Byte) (h : Invariant s) :
    Invariant (writeParams p xLen tol s) := { h with }

theorem invariant_afterSamples (k : Nat) (h : Invariant s) : Invariant (afterSamples p k s) :=
  { h with }

theorem invariant_afterDrain (k : Nat) (h : Invariant s) : Invariant (afterDrain p k s) :=
  { h with }

theorem invariant_recordLast (ch : Channel) (d : Byte) (h : Invariant s) :
    Invariant (recordLast ch d s) := by
  cases ch with
  | kbd => exact { h with }
  | mouse => exact h

/-! ## Updates of the keyboard's and the mouse's registers -/

/-- Only `EXT_PREFIX` is ever stored as a pending first byte (R144). -/
theorem invariant_armPrefix (h : Invariant s) : Invariant (armPrefix s.config.extPrefix s) :=
  { h with prefixStored := fun _ => rfl }

theorem invariant_clearPending (h : Invariant s) : Invariant (clearPending s) :=
  { h with prefixStored := nofun }

/-- A byte with its sync bit opens a packet, and the signs cached are its own (R181). -/
theorem invariant_captureByte0 {b : Byte} (hsync : b.getLsbD s.config.syncBit = true)
    (h : Invariant s) : Invariant (captureByte0 s.config b s) :=
  { h with
    slotLegal := slot_value_legal _
    packetOpen := fun _ => ⟨hsync, rfl, rfl⟩ }

/-- Byte 1 leaves open the packet that was open before it (R182). -/
theorem invariant_captureByte1 {b : Byte} (hopen : s.mouseSlot ≠ .slot0) (h : Invariant s) :
    Invariant (captureByte1 p b s) :=
  { h with
    slotLegal := slot_value_legal _
    packetOpen := fun _ => h.packetOpen hopen }

/-- Byte 2 closes the packet (R183). -/
theorem invariant_captureByte2 {b : Byte} (h : Invariant s) : Invariant (captureByte2 p b s) :=
  { h with
    slotLegal := slot_value_legal _
    packetOpen := fun hopen => absurd rfl hopen }

/-! ## Updates of the gesture's registers -/

/-- A transition zeroes both sums, which suits every gesture state (R211). -/
theorem invariant_transition (g : GestState) (h : Invariant s) : Invariant (transition g s) :=
  { h with
    gestLegal := gestState_value_legal g
    sumsZero := fun _ _ => ⟨rfl, rfl⟩
    strokeOneSums := fun _ => ⟨le_rfl, le_rfl⟩
    strokeTwoSums := fun _ => ⟨le_rfl, le_rfl⟩ }

theorem addClampedBelow_nonneg (p : Config.Params) (sum d : Int) : 0 ≤ addClampedBelow p sum d :=
  le_max_left _ _

theorem addClampedAbove_nonpos (p : Config.Params) (sum d : Int) : addClampedAbove p sum d ≤ 0 :=
  min_le_left _ _

theorem invariant_writeSums_strokeOne {x y : Int} (hg : s.gestState = .stroke1) (hx : 0 ≤ x)
    (hy : 0 ≤ y) (h : Invariant s) : Invariant (writeSums x y s) :=
  { h with
    sumsZero := fun hne _ => absurd hg hne
    strokeOneSums := fun _ => ⟨hx, hy⟩
    strokeTwoSums := fun htwo => by simp [hg] at htwo }

theorem invariant_writeSums_strokeTwo {x y : Int} (hg : s.gestState = .stroke2) (hx : 0 ≤ x)
    (hy : y ≤ 0) (h : Invariant s) : Invariant (writeSums x y s) :=
  { h with
    sumsZero := fun _ hne => absurd hg hne
    strokeOneSums := fun hone => by simp [hg] at hone
    strokeTwoSums := fun _ => ⟨hx, hy⟩ }

/-! ## The shared operations -/

theorem invariant_drain (ch : Channel) (h : Invariant s) : Invariant (drain p ch s).2 := by
  rcases exists_first_or_never (fun i => (statusAt p s i).getLsbD p.stObf) p.pollBudget with
    ⟨k, hk⟩ | hnone
  · rw [drain_of_firstFull ch hk]
    exact invariant_recordLast ch _ (invariant_afterDrain (k + 1) h)
  · rw [drain_of_neverFull ch hnone]
    exact invariant_afterSamples _ h

theorem invariant_gestureStep (b : Buttons) (dx dy : Int) (h : Invariant s) :
    Invariant (gestureStep p b dx dy s) := by
  rcases gestureStep_cases p b dx dy s with
    ⟨hstay, -⟩ | ⟨g, -, -, hmove⟩ | ⟨hg, hsums⟩ | ⟨hg, hsums⟩ | ⟨-, hdone⟩
  · rw [hstay]
    exact h
  · rw [hmove]
    exact invariant_transition g h
  · rw [hsums]
    exact invariant_writeSums_strokeOne hg (addClampedBelow_nonneg _ _ _)
      (addClampedBelow_nonneg _ _ _) h
  · rw [hsums]
    exact invariant_writeSums_strokeTwo hg (addClampedBelow_nonneg _ _ _)
      (addClampedAbove_nonpos _ _ _) h
  · rw [hdone]
    exact invariant_emit _ (invariant_transition .complete h)

theorem invariant_kbdReassemble (b : Byte) (hp : s.config = p) (h : Invariant s) :
    Invariant (kbdReassemble p b s) := by
  subst hp
  rcases kbdReassemble_cases s.config b s with ⟨rfl, harm⟩ | ⟨-, -, htwo⟩ | ⟨-, -, hone⟩
  · rw [harm]
    exact invariant_armPrefix h
  · rw [htwo]
    exact invariant_emit _ (invariant_clearPending h)
  · rw [hone]
    exact invariant_emit _ h

theorem invariant_packetComplete (h : Invariant s) : Invariant (packetComplete p s) :=
  invariant_gestureStep _ _ _ (invariant_emit _ h)

theorem invariant_mouseReassemble (b : Byte) (hp : s.config = p) (h : Invariant s) :
    Invariant (mouseReassemble p b s) := by
  subst hp
  rcases mouseReassemble_cases s.config b s with
    ⟨-, -, hdrop⟩ | ⟨-, hsync, hzero⟩ | ⟨hslot, hone⟩ | ⟨-, htwo⟩
  · rw [hdrop]
    exact invariant_emit _ h
  · rw [hzero]
    exact invariant_captureByte0 hsync h
  · rw [hone]
    exact invariant_captureByte1 (by simp [hslot]) h
  · rw [htwo]
    exact invariant_packetComplete (invariant_captureByte2 h)

/-! ## The handlers and IRQ -/

theorem kbdReassemble_config (p : Config.Params) (b : Byte) (s : State) :
    (kbdReassemble p b s).config = s.config := by
  rcases kbdReassemble_cases p b s with ⟨-, heq⟩ | ⟨-, -, heq⟩ | ⟨-, -, heq⟩ <;> simp [heq]

/-- After its drain the keyboard handler reports an error or hands the byte on (R140). -/
theorem kbdHandler_cases (p : Config.Params) (s : State) :
    (∃ kind, kbdHandler p s = emit (.discard .kbd kind) (drain p .kbd s).2) ∨
    (∃ d, kbdHandler p s = kbdReassemble p d (drain p .kbd s).2) := by
  rcases hd : drain p .kbd s with ⟨kind | d, s'⟩
  · exact .inl ⟨kind, kbdHandler_of_drain hd⟩
  · exact .inr ⟨d, kbdHandler_of_drain hd⟩

/-- After its drain the mouse handler reports an error or hands the byte on (R175). -/
theorem mouseHandler_cases (p : Config.Params) (s : State) :
    (∃ kind, mouseHandler p s = emit (.discard .mouse kind) (drain p .mouse s).2) ∨
    (∃ d, mouseHandler p s = mouseReassemble p d (drain p .mouse s).2) := by
  rcases hd : drain p .mouse s with ⟨kind | d, s'⟩
  · exact .inl ⟨kind, mouseHandler_of_drain hd⟩
  · exact .inr ⟨d, mouseHandler_of_drain hd⟩

theorem kbdHandler_config (p : Config.Params) (s : State) :
    (kbdHandler p s).config = s.config := by
  rcases kbdHandler_cases p s with ⟨kind, herr⟩ | ⟨d, hok⟩
  · simp [herr]
  · simp [hok, kbdReassemble_config]

theorem invariant_kbdHandler (hp : s.config = p) (h : Invariant s) :
    Invariant (kbdHandler p s) := by
  have hdrained : Invariant (drain p .kbd s).2 := invariant_drain .kbd h
  rcases kbdHandler_cases p s with ⟨kind, herr⟩ | ⟨d, hok⟩
  · rw [herr]
    exact invariant_emit _ hdrained
  · rw [hok]
    exact invariant_kbdReassemble d ((drain_config p .kbd s).trans hp) hdrained

theorem invariant_mouseHandler (hp : s.config = p) (h : Invariant s) :
    Invariant (mouseHandler p s) := by
  have hdrained : Invariant (drain p .mouse s).2 := invariant_drain .mouse h
  rcases mouseHandler_cases p s with ⟨kind, herr⟩ | ⟨d, hok⟩
  · rw [herr]
    exact invariant_emit _ hdrained
  · rw [hok]
    exact invariant_mouseReassemble d ((drain_config p .mouse s).trans hp) hdrained

theorem irqKbd_config (p : Config.Params) (m : Byte) (s : State) :
    (irqKbd p m s).config = s.config := by
  unfold irqKbd
  split
  · exact kbdHandler_config p s
  · rfl

theorem invariant_irqKbd (m : Byte) (hp : s.config = p) (h : Invariant s) :
    Invariant (irqKbd p m s) := by
  unfold irqKbd
  split
  · exact invariant_kbdHandler hp h
  · exact h

theorem invariant_irqMouse (m : Byte) (hp : s.config = p) (h : Invariant s) :
    Invariant (irqMouse p m s) := by
  unfold irqMouse
  split
  · exact invariant_mouseHandler hp h
  · exact h

theorem invariant_irqDispatch (m : Byte) (hp : s.config = p) (h : Invariant s) :
    Invariant (irqDispatch p m s) :=
  invariant_irqMouse m (by rw [irqKbd_config, hp]) (invariant_irqKbd m hp h)

/-! ## The instructions and the step -/

/-- Every instruction answers a next state, and keeps the invariants in it. -/
theorem exec_keeps_invariant (i : Instr) (h : Invariant s) :
    ∃ t, exec i s = .next t ∧ Invariant t := by
  cases i with
  | nop => exact ⟨_, rfl, h⟩
  | sub ch => exact ⟨_, rfl, invariant_setSub ch h⟩
  | unsub ch => exact ⟨_, rfl, invariant_clearSub ch h⟩
  | irq m => exact ⟨_, rfl, invariant_irqDispatch m rfl h⟩
  | kbdInt => exact ⟨_, rfl, invariant_kbdHandler rfl h⟩
  | kbdReasm b => exact ⟨_, rfl, invariant_kbdReassemble b rfl h⟩
  | mouseInt => exact ⟨_, rfl, invariant_mouseHandler rfl h⟩
  | mouseReasm b => exact ⟨_, rfl, invariant_mouseReassemble b rfl h⟩
  | gestStep lb rb mb dx dy => exact ⟨_, rfl, invariant_gestureStep ⟨lb, rb, mb⟩ dx dy h⟩
  | gestReset => exact ⟨_, rfl, invariant_transition .idle h⟩
  | gestCfg xLen tol => exact ⟨_, rfl, invariant_writeParams xLen tol h⟩

theorem step_of_no_input (hin : s.inputs = []) : step s = .next s := by
  simp only [step, takeInput_nil hin]

theorem step_of_reset {rest : List Input} (hin : s.inputs = .reset :: rest) :
    step s = .next (blockReset { s with inputs := rest }) := by
  simp only [step, takeInput_cons hin]

theorem step_of_legal_word {v : Nat} {rest : List Input} {i : Instr}
    (hin : s.inputs = .word v :: rest) (hdec : decodeCommand s.config v = .ok i) :
    step s = exec i { s with inputs := rest } := by
  simp only [step, takeInput_cons hin, hdec]

theorem step_of_illegal_word {v : Nat} {rest : List Input} {reason : IllegalReason}
    (hin : s.inputs = .word v :: rest) (hdec : decodeCommand s.config v = .error reason) :
    step s = .next (emit (.discard .ctrl .illegalOp) { s with inputs := rest }) := by
  simp only [step, takeInput_cons hin, hdec, illegalOp_eq_emit]

/-- Every step answers a next state, and keeps the invariants in it. -/
theorem step_keeps_invariant (h : Invariant s) : ∃ t, step s = .next t ∧ Invariant t := by
  cases hin : s.inputs with
  | nil => exact ⟨s, step_of_no_input hin, h⟩
  | cons input rest =>
    have htaken : Invariant { s with inputs := rest } := invariant_withInputs rest h
    cases input with
    | reset => exact ⟨_, step_of_reset hin, invariant_blockReset _⟩
    | word v =>
      cases hdec : decodeCommand s.config v with
      | ok i =>
        obtain ⟨t, hexec, ht⟩ := exec_keeps_invariant i htaken
        exact ⟨t, (step_of_legal_word hin hdec).trans hexec, ht⟩
      | error reason => exact ⟨_, step_of_illegal_word hin hdec, invariant_emit _ htaken⟩

end InvariantKept

/-- Settles O58, by induction on the run: reset meets the invariants and every step keeps them. -/
theorem reachableStatesMeetInvariants : Obligations.ReachableStatesMeetInvariants := by
  intro s hs
  induction hs with
  | start config inputs statusIn dataIn _ =>
    exact invariant_of_resetRegisters config inputs statusIn dataIn []
  | step _ hstep ih =>
    obtain ⟨t, hnext, ht⟩ := step_keeps_invariant ih
    obtain rfl : t = _ := Host.Outcome.next.inj (hnext.symm.trans hstep)
    exact ht

end Sys2Proof.Safety
end

section
/-! PROOFS. The decoder against the opcode map (R102 to R106) and R104's illegal words, the layouts
of the KEY and DISCARD records (R111, R114), and the fields of the decoded packet (R94, R95). -/

namespace Sys2Proof.Safety

open Sys2Proof.Machine

section Decoder

variable {r r' : Row} {w : Word}

/-! ## A word selects at most one row -/

/-- The patterns of two different rows differ in a bit that both masks cover. -/
theorem rows_eq_of_patterns_agree :
    ∀ r ∈ rows, ∀ r' ∈ rows, r.pattern &&& r'.mask = r'.pattern &&& r.mask → r = r' := by
  decide

theorem row_eq_of_both_select (hr : r ∈ rows) (hr' : r' ∈ rows) (h : r.selects w = true)
    (h' : r'.selects w = true) : r = r' := by
  have hpat : w &&& r.mask = r.pattern := by simpa [Row.selects] using h
  have hpat' : w &&& r'.mask = r'.pattern := by simpa [Row.selects] using h'
  refine rows_eq_of_patterns_agree r hr r' hr' ?_
  rw [← hpat, ← hpat', BitVec.and_assoc, BitVec.and_assoc, BitVec.and_comm r.mask]

theorem decode_of_selects (hr : r ∈ rows) (h : r.selects w = true) :
    decode w = .ok (operandsOf r.op w) := by
  cases hfind : rows.find? (fun r => r.selects w) with
  | none => exact absurd h (List.find?_eq_none.mp hfind r hr)
  | some r₀ =>
    have hr₀ : r₀ = r :=
      row_eq_of_both_select (List.mem_of_find?_eq_some hfind) hr
        (List.find?_some (p := fun r : Row => r.selects w) hfind) h
    simp only [decode, hfind, hr₀]

theorem decode_error_of_no_row (h : ∀ r ∈ rows, r.selects w = false) :
    ∃ reason, decode w = .error reason := by
  have hfind : rows.find? (fun r => r.selects w) = none :=
    List.find?_eq_none.mpr fun r hr => by simp [h r hr]
  exact ⟨if opcodeAssigned w then .reservedBit else .unassignedOpcode,
    by simp only [decode, hfind]⟩

/-- A command port of 32 bits decodes the 32 low bits of what the host drives (R96). -/
theorem decodeCommand_of_opWidth_32 {p : Config.Params} (hp : p.opWidth = 32) (v : Nat) :
    decodeCommand p v = decode (BitVec.ofNat 32 v) := by
  have hlow : BitVec.ofNat 32 (v % 2 ^ 32) = BitVec.ofNat 32 v :=
    BitVec.eq_of_toNat_eq (by simp)
  rw [decodeCommand, hp, if_pos (Nat.mod_lt v (by decide)), hlow]

/-! ## What a row asks of the word's number -/

/-- The mask of the `n` bits from bit `lo` up. -/
def fieldMask (lo n : Nat) : Word := (BitVec.allOnes n).setWidth 32 <<< lo

/-- The reserved bits of each row's format (R97 to R101): the lowest one and how many there are. -/
def reservedField : Op → Nat × Nat
  | .nop | .kbdInt | .mouseInt | .gestReset => (0, 24)
  | .sub | .unsub => (1, 23)
  | .irq | .kbdReasm | .mouseReasm => (8, 16)
  | .gestStep => (3, 3)
  | .gestCfg => (16, 8)

/-- Each row's pattern is its opcode with zeros below, and its mask covers the opcode and the
reserved bits of its format. -/
theorem rows_follow_formats : ∀ r ∈ rows,
    r.pattern = formatZ (opcodeOf r.pattern) ∧
      r.mask = fieldMask 24 8 ||| fieldMask (reservedField r.op).1 (reservedField r.op).2 ∧
      (reservedField r.op).1 + (reservedField r.op).2 ≤ 24 := by
  decide

theorem getLsbD_fieldMask {lo n i : Nat} (hi : i < 32) :
    (fieldMask lo n).getLsbD i = (decide (lo ≤ i) && decide (i < lo + n)) := by
  by_cases hlo : lo ≤ i
  · simp [fieldMask, hi, hlo, show ¬ i < lo by omega, show i - lo < n ↔ i < lo + n by omega]
  · simp [fieldMask, hlo, show i < lo by omega]

theorem getLsbD_formatZ {i : Nat} (opcode : Byte) (hi : i < 32) :
    (formatZ opcode).getLsbD i = (decide (24 ≤ i) && opcode.getLsbD (i - 24)) := by
  by_cases hop : 24 ≤ i
  · simp [formatZ, hi, hop, show ¬ i < 24 by omega]
  · simp [formatZ, hop, show i < 24 by omega]

/-- The opcode bits and the bits of one field below them, tested by one mask. -/
theorem and_fieldMasks_eq_formatZ_iff {opcode : Byte} {lo n : Nat} (hn : lo + n ≤ 24) :
    w &&& (fieldMask 24 8 ||| fieldMask lo n) = formatZ opcode ↔
      opcodeOf w = opcode ∧ w.extractLsb' lo n = 0#n := by
  have hbits : w &&& (fieldMask 24 8 ||| fieldMask lo n) = formatZ opcode ↔ ∀ i < 32,
      (w.getLsbD i && (decide (24 ≤ i) || (decide (lo ≤ i) && decide (i < lo + n)))) =
        (decide (24 ≤ i) && opcode.getLsbD (i - 24)) := by
    rw [BitVec.eq_of_getLsbD_eq_iff]
    refine forall₂_congr fun i hi => ?_
    rw [BitVec.getLsbD_and, BitVec.getLsbD_or, getLsbD_fieldMask hi, getLsbD_fieldMask hi,
      getLsbD_formatZ opcode hi]
    simp [hi]
  rw [hbits]
  simp only [BitVec.eq_of_getLsbD_eq_iff, opcodeOf, BitVec.getLsbD_extractLsb', BitVec.getLsbD_zero]
  constructor
  · intro h
    constructor
    · intro j hj
      simpa [hj] using h (24 + j) (by omega)
    · intro j hj
      simpa [hj, show ¬ 24 ≤ lo + j by omega] using h (lo + j) (by omega)
  · rintro ⟨hop, hfield⟩ i hi
    by_cases hi24 : 24 ≤ i
    · have hbit := hop (i - 24) (by omega)
      simpa [hi24, show i - 24 < 8 by omega] using hbit
    · by_cases hin : lo ≤ i ∧ i < lo + n
      · have hbit := hfield (i - lo) (by omega)
        simpa [hi24, hin, show i - lo < n by omega] using hbit
      · have hout : (decide (lo ≤ i) && decide (i < lo + n)) = false := by simpa using hin
        simp [hi24, hout]

theorem opcodeOf_eq_iff (opcode : Byte) :
    opcodeOf w = opcode ↔ w.toNat / 2 ^ 24 = opcode.toNat := by
  have hw := w.isLt
  rw [← BitVec.toNat_inj, opcodeOf, BitVec.extractLsb'_toNat, Nat.shiftRight_eq_div_pow,
    Nat.mod_eq_of_lt (by omega)]

theorem extractLsb'_eq_zero_iff {lo n : Nat} (hn : lo + n ≤ 24) :
    w.extractLsb' lo n = 0#n ↔ w.toNat % 2 ^ 24 / 2 ^ lo % 2 ^ n = 0 := by
  have hdvd : 2 ^ (lo + n) ∣ 2 ^ 24 := pow_dvd_pow 2 hn
  have hlow (v : Nat) : v / 2 ^ lo % 2 ^ n = v % 2 ^ (lo + n) / 2 ^ lo := by
    rw [pow_add, Nat.mod_mul_right_div_self]
  rw [← BitVec.toNat_inj, BitVec.extractLsb'_toNat, Nat.shiftRight_eq_div_pow, hlow, hlow,
    Nat.mod_mod_of_dvd _ hdvd, BitVec.toNat_zero]

/-- A row is selected by its opcode over zero reserved bits (R102, R104). -/
theorem selects_iff (hr : r ∈ rows) :
    r.selects w = true ↔
      w.toNat / 2 ^ 24 = (opcodeOf r.pattern).toNat ∧
        w.toNat % 2 ^ 24 / 2 ^ (reservedField r.op).1 % 2 ^ (reservedField r.op).2 = 0 := by
  obtain ⟨hpat, hmask, hbelow⟩ := rows_follow_formats r hr
  rw [Row.selects, beq_iff_eq, hmask]
  conv_lhs => rw [hpat]
  rw [and_fieldMasks_eq_formatZ_iff hbelow, opcodeOf_eq_iff, extractLsb'_eq_zero_iff hbelow]

/-- R104's two cases, row by row: a legal word has a row's opcode over zero reserved bits. -/
theorem illegalWord_eq_false_iff (v : Nat) : illegalWord v = false ↔
    ∃ r ∈ rows, v / 2 ^ 24 = (opcodeOf r.pattern).toNat ∧
      v % 2 ^ 24 / 2 ^ (reservedField r.op).1 % 2 ^ (reservedField r.op).2 = 0 := by
  have hoperand : v % 2 ^ 24 < 2 ^ 24 := Nat.mod_lt v (by decide)
  simp only [illegalWord]
  generalize v % 2 ^ 24 = operand at hoperand
  generalize v / 2 ^ 24 = opcode
  simp only [rows, opcodeOf, reservedField, List.mem_cons, List.not_mem_nil, or_false,
    exists_eq_or_imp, exists_eq_left, BitVec.extractLsb'_toNat, BitVec.toNat_ofNat,
    Nat.reduceShiftRight, Nat.reducePow, Nat.reduceMod, Nat.div_one, pow_zero]
  -- An assigned opcode leaves one row on the right and one case of R104 on the left.
  by_cases hassigned : opcode ∈
      [0x00, 0x01, 0x02, 0x03, 0x10, 0x11, 0x20, 0x21, 0x30, 0x31, 0x32]
  · simp only [List.mem_cons, List.not_mem_nil, or_false] at hassigned
    rcases hassigned with rfl | rfl | rfl | rfl | rfl | rfl | rfl | rfl | rfl | rfl | rfl <;>
      simp <;> omega
  · simp only [List.mem_cons, List.not_mem_nil, or_false, not_or] at hassigned
    simp [hassigned]

theorem illegalWord_toNat_eq_false_iff :
    illegalWord w.toNat = false ↔ ∃ r ∈ rows, r.selects w = true := by
  rw [illegalWord_eq_false_iff]
  exact exists_congr fun r => and_congr_right fun hr => (selects_iff hr).symm

end Decoder

/-- Settles O3: a row that selects the word is the only one, and `decode` finds it. -/
theorem wordSelectsOneRowOrIsIllegal : Obligations.WordSelectsOneRowOrIsIllegal := by
  refine ⟨fun w => ?_, fun p w hp => ?_⟩
  · by_cases hsel : ∃ r ∈ rows, r.selects w = true
    · obtain ⟨r, hr, h⟩ := hsel
      exact .inl ⟨r, hr, h, fun r' hr' h' => row_eq_of_both_select hr' hr h' h,
        decode_of_selects hr h⟩
    · have hnone : ∀ r ∈ rows, r.selects w = false := by simpa using hsel
      exact .inr ⟨hnone, decode_error_of_no_row hnone⟩
  · rw [decodeCommand_of_opWidth_32 hp, BitVec.ofNat_toNat, BitVec.setWidth_eq]

/-- Settles O5: the step on an illegal word, then the illegal words as those that select no row. -/
theorem illegalWordOnlyDiscards : Obligations.IllegalWordOnlyDiscards := by
  refine ⟨fun s v rest reason hin hdec => ?_, fun p v hp => ?_⟩
  · rw [step_of_illegal_word hin hdec, emit_eq, discard_ctrl_illegalOp_word]
  · rw [decodeCommand_of_opWidth_32 hp, ← BitVec.toNat_ofNat]
    split
    case isTrue hill =>
      refine decode_error_of_no_row fun r hr => Bool.eq_false_iff.mpr fun hsel => ?_
      have hlegal := illegalWord_toNat_eq_false_iff.mpr ⟨r, hr, hsel⟩
      exact Bool.false_ne_true (hlegal.symm.trans hill)
    case isFalse hlegal =>
      obtain ⟨r, hr, hsel⟩ := illegalWord_toNat_eq_false_iff.mp (Bool.eq_false_iff.mpr hlegal)
      exact ⟨_, decode_of_selects hr hsel⟩

/-! ## The layouts of records -/

/-- The bits of a KEY record's word, field by field from bit 0 up (R111). -/
theorem getLsbD_key_word (make : Bool) (len : EventLength) (by0 by1 : Byte) {i : Nat}
    (hi : i < 32) :
    (Record.key make len by0 by1).word.getLsbD i =
      if i < 8 then by0.getLsbD i
      else if i < 16 then by1.getLsbD (i - 8)
      else if i = 16 then make
      else if i = 17 then decide (len = .two)
      else decide (24 ≤ i) && (0x81#8).getLsbD (i - 24) := by
  simp only [Record.word, BitVec.getLsbD_or, BitVec.getLsbD_shiftLeft, BitVec.getLsbD_setWidth]
  have hlen : len.lessOne[0] = decide (len = .two) := by
    cases len <;> simp [EventLength.lessOne]
  interval_cases i <;> simp [hlen]

/-- A KEY record's tag, bytes and zero bits (R111). -/
theorem key_word_fields (make : Bool) (len : EventLength) (by0 by1 : Byte) :
    let w := (Record.key make len by0 by1).word
    w.extractLsb' 24 8 = 0x81#8 ∧ w.extractLsb' 0 8 = by0 ∧ w.extractLsb' 8 8 = by1 ∧
      w.extractLsb' 18 6 = 0#6 := by
  simp only [BitVec.eq_of_getLsbD_eq_iff, BitVec.getLsbD_extractLsb']
  refine ⟨fun j hj => ?tag, fun j hj => ?byte0, fun j hj => ?byte1, fun j hj => ?zero⟩
  all_goals rw [getLsbD_key_word make len by0 by1 (by omega)]
  case tag =>
    rw [if_neg (by omega), if_neg (by omega), if_neg (by omega), if_neg (by omega)]
    simp [hj]
  case byte0 => simp [hj]
  case byte1 => simp [hj, show 8 + j < 16 by omega]
  case zero =>
    rw [if_neg (by omega), if_neg (by omega), if_neg (by omega), if_neg (by omega)]
    simp [show ¬ 24 ≤ 18 + j by omega]

/-- A DISCARD record's code, channel, zero bits and tag, for each channel and kind (R114). -/
theorem discard_word_fields (ch : RecordChannel) (kind : ErrorKind) :
    let w := (Record.discard ch kind).word
    w.extractLsb' 0 8 = kind.code ∧ w.extractLsb' 8 2 = ch.number ∧
      w.extractLsb' 10 14 = 0#14 ∧ w.extractLsb' 24 8 = 0x84#8 := by
  cases ch <;> cases kind <;> decide

/-- Settles O6: the two records' fields, and R111's example by evaluation. -/
theorem keyAndDiscardLayouts : Obligations.KeyAndDiscardLayouts := by
  refine ⟨fun make len by0 by1 => ?_, by decide, fun ch kind => ⟨rfl, discard_word_fields ch kind⟩⟩
  obtain ⟨htag, hby0, hby1, hzero⟩ := key_word_fields make len by0 by1
  exact ⟨htag, hby0, hby1, getLsbD_key_word make len by0 by1 (by decide),
    getLsbD_key_word make len by0 by1 (by decide), hzero⟩

/-! ## The decoded packet -/

/-- The assembled delta is a 9-bit two's-complement number (R11, R94). -/
theorem deltaOf_mem_range {p : Config.Params} (sign : Bool) (b : Byte) (h : 9 ≤ p.deltaWidth) :
    -256 ≤ deltaOf p sign b ∧ deltaOf p sign b ≤ 255 := by
  have hb := b.isLt
  have hs := Bool.toNat_le sign
  rw [deltaOf_eq sign b h]
  omega

/-- Settles O8: the fields are R95's by definition, and each delta is R94's. -/
theorem packetFieldsFromBytes : Obligations.PacketFieldsFromBytes := by
  intro p b0 b1 b2 hwidth
  obtain ⟨hxlo, hxhi⟩ := deltaOf_mem_range (b0.getLsbD p.xsignBit) b1 hwidth
  obtain ⟨hylo, hyhi⟩ := deltaOf_mem_range (b0.getLsbD p.ysignBit) b2 hwidth
  exact ⟨rfl, rfl, rfl, rfl, rfl, rfl, deltaOf_eq _ b1 hwidth, deltaOf_eq _ b2 hwidth,
    hxlo, hxhi, hylo, hyhi⟩

end Sys2Proof.Safety
end

section
/-! PROOFS. The keyboard (41_keyboard.md): the drain and its frame, the keyboard handler's outcomes,
the scancode reassembler along a sequence of bytes, and what leaves the keyboard registers
unchanged. -/

namespace Sys2Proof.Safety

open Sys2Proof.Machine

section Keyboard

variable {p : Config.Params} {s s' : State} {b : Byte}

/-! ## The drain -/

/-- Some sample of the budget is the first with output-buffer-full, or none has it (R131, R136). -/
theorem firstFull_or_neverFull (p : Config.Params) (s : State) :
    (∃ k, firstFull p s k) ∨ neverFull p s :=
  exists_first_or_never (fun i => (statusAt p s i).getLsbD p.stObf) p.pollBudget

/-- The state a drain leaves: one that has read a data byte, or one that has only sampled. -/
theorem drain_state_cases (p : Config.Params) (ch : Channel) (s : State) :
    (∃ k d, (drain p ch s).2 = recordLast ch d (afterDrain p k s)) ∨
      (drain p ch s).2 = afterSamples p p.pollBudget s := by
  rcases firstFull_or_neverFull p s with ⟨k, hfull⟩ | hnever
  · exact .inl ⟨k + 1, dataAt p s (k + 1), by rw [drain_of_firstFull ch hfull]⟩
  · exact .inr (by rw [drain_of_neverFull ch hnever])

/-- A drain touches neither the reassembler's registers nor the output stream (R130, R138). -/
theorem drain_frame {ch : Channel} {r : Except ErrorKind Byte} (h : drain p ch s = (r, s')) :
    s'.kbdPending = s.kbdPending ∧ s'.kbdPrefix = s.kbdPrefix ∧ s'.out = s.out := by
  obtain rfl : (drain p ch s).2 = s' := by rw [h]
  rcases drain_state_cases p ch s with ⟨k, d, hread⟩ | hnone
  · rw [hread]
    cases ch <;> exact ⟨rfl, rfl, rfl⟩
  · rw [hnone]
    exact ⟨rfl, rfl, rfl⟩

/-! ## The handlers after a drain -/

theorem exec_kbdInt (s : State) : exec .kbdInt s = .next (kbdHandler s.config s) := rfl

theorem exec_mouseInt (s : State) : exec .mouseInt s = .next (mouseHandler s.config s) := rfl

theorem kbdHandler_of_neverFull (h : neverFull p s) :
    kbdHandler p s = emit (.discard .kbd .pollTimeout) (afterSamples p p.pollBudget s) :=
  kbdHandler_of_drain (drain_of_neverFull .kbd h)

theorem mouseHandler_of_neverFull (h : neverFull p s) :
    mouseHandler p s = emit (.discard .mouse .pollTimeout) (afterSamples p p.pollBudget s) :=
  mouseHandler_of_drain (drain_of_neverFull .mouse h)

/-- A data byte whose sample fails the validation is recorded in `KBD_LAST` and reported (R135). -/
theorem kbdHandler_of_invalid {k : Nat} {kind : ErrorKind} (h : firstFull p s k)
    (hv : validateKbd p (statusAt p s k) = some kind) :
    kbdHandler p s =
      emit (.discard .kbd kind)
        (recordLast .kbd (dataAt p s (k + 1)) (afterDrain p (k + 1) s)) := by
  have hd := drain_of_firstFull .kbd h
  simp only [validate, hv] at hd
  exact kbdHandler_of_drain hd

/-- A data byte whose sample validates is recorded in `KBD_LAST` and handed on (R140). -/
theorem kbdHandler_of_valid {k : Nat} (h : firstFull p s k)
    (hv : validateKbd p (statusAt p s k) = none) :
    kbdHandler p s =
      kbdReassemble p (dataAt p s (k + 1))
        (recordLast .kbd (dataAt p s (k + 1)) (afterDrain p (k + 1) s)) := by
  have hd := drain_of_firstFull .kbd h
  simp only [validate, hv] at hd
  exact kbdHandler_of_drain hd

/-- The kind that R134's order gives a sample with an error bit. -/
def firstErrorKind (p : Config.Params) (st : Byte) : ErrorKind :=
  if st.getLsbD p.stParity then .parityError
  else if st.getLsbD p.stTimeout then .controllerTimeoutError
  else .wrongOriginError

theorem validateKbd_of_errorBit {st : Byte}
    (h : st.getLsbD p.stParity = true ∨ st.getLsbD p.stTimeout = true ∨
      st.getLsbD p.stAux = true) :
    validateKbd p st = some (firstErrorKind p st) := by
  unfold validateKbd firstErrorKind
  split_ifs with hparity htimeout haux
  · rfl
  · rfl
  · rfl
  · simp [hparity, htimeout, haux] at h

theorem discard_firstErrorKind_word (p : Config.Params) (st : Byte) :
    (Record.discard .kbd (firstErrorKind p st)).word =
      if st.getLsbD p.stParity then 0x84000002#32
      else if st.getLsbD p.stTimeout then 0x84000003#32 else 0x84000004#32 := by
  unfold firstErrorKind
  split_ifs <;> simp

/-! ## The scancode reassembler, byte by byte -/

theorem exec_kbdReasm (b : Byte) (s : State) :
    exec (.kbdReasm b) s = .next (kbdReassemble s.config b s) := rfl

theorem kbdReassemble_extPrefix (p : Config.Params) (s : State) :
    kbdReassemble p p.extPrefix s = armPrefix p.extPrefix s := if_pos rfl

theorem kbdReassemble_of_pending (hb : b ≠ p.extPrefix) (hpend : s.kbdPending = true) :
    kbdReassemble p b s = emit (.key (isMake p b) .two s.kbdPrefix b) (clearPending s) := by
  simp [kbdReassemble, hb, hpend]

@[simp] theorem kbdReassemble_kbdLast (p : Config.Params) (b : Byte) (s : State) :
    (kbdReassemble p b s).kbdLast = s.kbdLast := by
  rcases kbdReassemble_cases p b s with ⟨-, heq⟩ | ⟨-, -, heq⟩ | ⟨-, -, heq⟩ <;> simp [heq]

/-- After a byte the pending flag says whether that byte was `EXT_PREFIX` (R144). -/
theorem kbdReassemble_kbdPending (p : Config.Params) (b : Byte) (s : State) :
    (kbdReassemble p b s).kbdPending = decide (b = p.extPrefix) := by
  rcases kbdReassemble_cases p b s with ⟨hb, heq⟩ | ⟨hb, -, heq⟩ | ⟨hb, hnot, heq⟩ <;>
    rw [heq]
  · simp [hb]
  · simp [hb]
  · simp [hb, hnot]

/-! ## What leaves the keyboard registers unchanged -/

/-- The keyboard registers, with the parameters that say which operations reach them. -/
def keyboardPart (s : State) : Bool × Byte × Byte × Config.Params :=
  (s.kbdPending, s.kbdPrefix, s.kbdLast, s.config)

theorem keyboardPart_eq_iff :
    keyboardPart s' = keyboardPart s ↔ sameKeyboard s s' ∧ s'.config = s.config := by
  simp [keyboardPart, sameKeyboard, and_assoc]

theorem kbdLast_eq_of_keyboardPart (h : keyboardPart s' = keyboardPart s) :
    s'.kbdLast = s.kbdLast := by
  obtain ⟨⟨-, -, hlast⟩, -⟩ := keyboardPart_eq_iff.mp h
  exact hlast

theorem keyboardPart_gestureStep (p : Config.Params) (btn : Buttons) (dx dy : Int) (s : State) :
    keyboardPart (gestureStep p btn dx dy s) = keyboardPart s := by
  rcases gestureStep_cases p btn dx dy s with
    ⟨heq, -⟩ | ⟨g, -, -, heq⟩ | ⟨-, heq⟩ | ⟨-, heq⟩ | ⟨-, heq⟩ <;> rw [heq] <;> rfl

theorem keyboardPart_mouseReassemble (p : Config.Params) (b : Byte) (s : State) :
    keyboardPart (mouseReassemble p b s) = keyboardPart s := by
  rcases mouseReassemble_cases p b s with
    ⟨-, -, heq⟩ | ⟨-, -, heq⟩ | ⟨-, heq⟩ | ⟨-, heq⟩ <;> rw [heq]
  case inr.inr.inr => exact keyboardPart_gestureStep p _ _ _ _
  all_goals rfl

/-- A mouse drain records no byte (R170). -/
theorem keyboardPart_drain_mouse (p : Config.Params) (s : State) :
    keyboardPart (drain p .mouse s).2 = keyboardPart s := by
  rcases drain_state_cases p .mouse s with ⟨k, d, heq⟩ | heq <;> rw [heq] <;> rfl

theorem keyboardPart_mouseHandler (p : Config.Params) (s : State) :
    keyboardPart (mouseHandler p s) = keyboardPart s := by
  rcases mouseHandler_cases p s with ⟨kind, heq⟩ | ⟨d, heq⟩
  · rw [heq]
    exact keyboardPart_drain_mouse p s
  · rw [heq, keyboardPart_mouseReassemble, keyboardPart_drain_mouse]

/-- An IRQ whose keyboard half does not run (R266). -/
theorem keyboardPart_irqDispatch {m : Byte}
    (h : ¬ (m.getLsbD p.irqBitKbd = true ∧ s.sub.getLsbD 0 = true)) :
    keyboardPart (irqDispatch p m s) = keyboardPart s := by
  have hkbd : irqKbd p m s = s := if_neg (by simpa [subscribed, channelBit] using h)
  rw [irqDispatch, hkbd]
  unfold irqMouse
  split
  · exact keyboardPart_mouseHandler p s
  · rfl

/-- Every operation answers a next state; one that can hand no byte to the scancode reassembler
keeps the keyboard registers in it (R150). -/
theorem exec_keeps_keyboardPart (i : Instr) (h : touchesKeyboard s.config i = false) :
    ∃ t, exec i s = .next t ∧ keyboardPart t = keyboardPart s := by
  cases i with
  | nop => exact ⟨_, rfl, rfl⟩
  | sub ch => exact ⟨_, rfl, rfl⟩
  | unsub ch => exact ⟨_, rfl, rfl⟩
  | irq m =>
    have hbit : m.getLsbD s.config.irqBitKbd = false := h
    exact ⟨_, rfl, keyboardPart_irqDispatch (by simp [hbit])⟩
  | kbdInt => exact absurd h nofun
  | kbdReasm b => exact absurd h nofun
  | mouseInt => exact ⟨_, rfl, keyboardPart_mouseHandler s.config s⟩
  | mouseReasm b => exact ⟨_, rfl, keyboardPart_mouseReassemble s.config b s⟩
  | gestStep lb rb mb dx dy => exact ⟨_, rfl, keyboardPart_gestureStep s.config _ dx dy s⟩
  | gestReset => exact ⟨_, rfl, rfl⟩
  | gestCfg xLen tol => exact ⟨_, rfl, rfl⟩

/-- `KBD_LAST` is kept by all but a KBD_INT and an IRQ whose keyboard half runs (R137). -/
theorem exec_keeps_kbdLast (i : Instr) (hint : i ≠ .kbdInt)
    (hirq : ∀ m, i = .irq m → ¬ (m.getLsbD s.config.irqBitKbd = true ∧ s.sub.getLsbD 0 = true)) :
    ∃ t, exec i s = .next t ∧ t.kbdLast = s.kbdLast := by
  cases htouch : touchesKeyboard s.config i with
  | false =>
    obtain ⟨t, hexec, ht⟩ := exec_keeps_keyboardPart i htouch
    exact ⟨t, hexec, kbdLast_eq_of_keyboardPart ht⟩
  | true =>
    cases i with
    | kbdInt => exact absurd rfl hint
    | kbdReasm b => exact ⟨_, rfl, kbdReassemble_kbdLast s.config b s⟩
    | irq m =>
      exact ⟨_, rfl, kbdLast_eq_of_keyboardPart (keyboardPart_irqDispatch (hirq m rfl))⟩
    | _ => exact absurd htouch nofun

theorem execAll_cons {i : Instr} {is : List Instr} (h : exec i s = .next s') :
    execAll (i :: is) s = execAll is s' := by
  simp only [execAll, h]

/-! ## A sequence of bytes -/

/-- The records of a sequence are those of its first byte, then those of the rest. -/
theorem keyEvents_cons (p : Config.Params) (afterPrefix : Bool) (b : Byte) (bs : List Byte) :
    keyEvents p afterPrefix (b :: bs) =
      keyEvents p afterPrefix [b] ++ keyEvents p (decide (b = p.extPrefix)) bs := by
  by_cases hb : b = p.extPrefix <;> simp [keyEvents, hb]

theorem length_keyEvents (p : Config.Params) (afterPrefix : Bool) (bs : List Byte) :
    (keyEvents p afterPrefix bs).length = bs.countP (· ≠ p.extPrefix) := by
  induction bs generalizing afterPrefix with
  | nil => rfl
  | cons b bs ih => by_cases hb : b = p.extPrefix <;> simp [keyEvents, hb, ih]

/-- The stored first byte of R49's first invariant is kept by every byte. -/
theorem kbdReassemble_keeps_prefixStored
    (h : s.kbdPending = true → s.kbdPrefix = s.config.extPrefix) (b : Byte) :
    (kbdReassemble s.config b s).kbdPending = true →
      (kbdReassemble s.config b s).kbdPrefix = s.config.extPrefix := by
  rcases kbdReassemble_cases s.config b s with ⟨rfl, heq⟩ | ⟨-, -, heq⟩ | ⟨-, -, heq⟩
  · simp [heq]
  · simp [heq]
  · simpa [heq] using h

/-- One byte appends the records that R149 counts for it. -/
theorem kbdReassemble_out (h : s.kbdPending = true → s.kbdPrefix = s.config.extPrefix) (b : Byte) :
    (kbdReassemble s.config b s).out =
      s.out ++ (keyEvents s.config s.kbdPending [b]).map Record.word := by
  rcases kbdReassemble_cases s.config b s with ⟨hb, heq⟩ | ⟨hb, hpend, heq⟩ | ⟨hb, hpend, heq⟩
  · rw [heq]
    simp [keyEvents, hb]
  · simp [heq, keyEvents, hb, hpend, h hpend, isMake]
  · simp [heq, keyEvents, hb, hpend, isMake]

/-- A run of KBD_REASM appends the records that R149 counts. -/
theorem execAll_kbdReasm (bs : List Byte) (s : State)
    (h : s.kbdPending = true → s.kbdPrefix = s.config.extPrefix) :
    ∃ t, execAll (bs.map .kbdReasm) s = .next t ∧
      t.out = s.out ++ (keyEvents s.config s.kbdPending bs).map Record.word := by
  induction bs generalizing s with
  | nil => exact ⟨s, rfl, by simp [keyEvents]⟩
  | cons b bs ih =>
    have hconfig := kbdReassemble_config s.config b s
    have hstored := kbdReassemble_keeps_prefixStored h b
    obtain ⟨t, hrun, hout⟩ := ih (kbdReassemble s.config b s) (by rwa [hconfig])
    refine ⟨t, (execAll_cons rfl).trans hrun, ?_⟩
    rw [hout, hconfig, kbdReassemble_out h, kbdReassemble_kbdPending,
      keyEvents_cons s.config s.kbdPending b bs, List.map_append, List.append_assoc]

theorem exec_kbdReasm_extPrefix (s : State) :
    exec (.kbdReasm s.config.extPrefix) s = .next (armPrefix s.config.extPrefix s) := by
  rw [exec_kbdReasm, kbdReassemble_extPrefix]

/-- Two prefixes and another byte emit one event of length 2, whatever was pending (R146). -/
theorem execAll_prefix_prefix_byte (s : State) (hb : b ≠ s.config.extPrefix) :
    let e := s.config.extPrefix
    execAll [.kbdReasm e, .kbdReasm e, .kbdReasm b] s =
      .next (emit (.key (isMake s.config b) .two e b)
        (clearPending (armPrefix e (armPrefix e s)))) := by
  intro e
  have hpair := exec_kbdReasm b (armPrefix e (armPrefix e s))
  rw [armPrefix_config, armPrefix_config, kbdReassemble_of_pending hb rfl] at hpair
  exact (execAll_cons (exec_kbdReasm_extPrefix s)).trans
    ((execAll_cons (exec_kbdReasm_extPrefix (armPrefix e s))).trans (execAll_cons hpair))

/-! ## The word of KBD_REASM -/

/-- An operation's word selects its own row, which gives it that row's operands (R106). -/
theorem decode_encode_eq_operandsOf {i : Instr} (h : Laws.EncodesItsRow.Statement i) :
    decode (encode i) = .ok (operandsOf (Laws.opOf i) (encode i)) := by
  obtain ⟨r, hr, hop, hsel⟩ := h
  rw [← hop, decode_of_selects hr hsel]

theorem byteOperand_formatB (opcode b : Byte) : byteOperand (formatB opcode b) = b := by
  refine BitVec.eq_of_getLsbD_eq fun i hi => ?_
  simp only [byteOperand, formatB, BitVec.getLsbD_extractLsb', BitVec.getLsbD_or,
    getLsbD_formatZ _ (show 0 + i < 32 by omega), BitVec.getLsbD_setWidth]
  simp [hi, show ¬ 24 ≤ i by omega, show i < 32 by omega]

theorem encode_kbdReasm (b : Byte) : encode (.kbdReasm b) = 0x11000000#32 ||| b.setWidth 32 := rfl

theorem decode_kbdReasm_word (b : Byte) :
    decode (0x11000000#32 ||| b.setWidth 32) = .ok (.kbdReasm b) := by
  rw [← encode_kbdReasm, decode_encode_eq_operandsOf (Laws.EncodesItsRow.kbdReasm b)]
  exact congrArg (fun d => Except.ok (Instr.kbdReasm d)) (byteOperand_formatB 0x11#8 b)

end Keyboard

/-! ## The statements -/

/-- Settles O24, by what ends the polling. -/
theorem drainReadsPorts : Obligations.DrainReadsPorts := by
  intro p ch s _
  rcases firstFull_or_neverFull p s with ⟨k, hfull⟩ | hnever
  · refine .inl ⟨k, hfull.1, hfull, ?_⟩
    rw [drain_of_firstFull ch hfull]
    cases ch <;> rfl
  · exact .inr ⟨hnever, by rw [drain_of_neverFull ch hnever]; rfl⟩

/-- Settles O25: both handlers report the drain that read no data byte. -/
theorem pollTimeoutReadsNoData : Obligations.PollTimeoutReadsNoData := by
  intro s p hnever
  constructor
  · rw [exec_kbdInt, kbdHandler_of_neverFull hnever, emit_eq, discard_kbd_pollTimeout_word]
    rfl
  · rw [exec_mouseInt, mouseHandler_of_neverFull hnever, emit_eq, discard_mouse_pollTimeout_word]
    rfl

/-- Settles O27: the sample fails the validation, with the first kind in R134's order. -/
theorem kbdIntDiscardsBadByte : Obligations.KbdIntDiscardsBadByte := by
  intro s k p hfull hbits
  rw [exec_kbdInt, kbdHandler_of_invalid hfull (validateKbd_of_errorBit hbits), emit_eq,
    discard_firstErrorKind_word]
  rfl

/-- Settles O30: a drain keeps the pending first byte, a report keeps it too, and a byte that
validates meets it. -/
theorem prefixSurvivesFailedDrain : Obligations.PrefixSurvivesFailedDrain := by
  constructor
  · intro s s' kind hd
    obtain ⟨hpending, hprefix, -⟩ := drain_frame hd
    exact ⟨_, congrArg Host.Outcome.next (kbdHandler_of_drain hd), hpending, hprefix⟩
  · intro s s' b hpend hd hb
    obtain ⟨hpending, hprefix, hout⟩ := drain_frame hd
    have hpairs := kbdReassemble_of_pending hb (hpending.trans hpend)
    refine ⟨_, congrArg Host.Outcome.next ((kbdHandler_of_drain hd).trans hpairs), rfl, ?_⟩
    simp [hout, hprefix, isMake]

/-- Settles O37, by the drain's result and, for a byte, by what the reassembler does with it. -/
theorem kbdIntOutcomes : Obligations.KbdIntOutcomes := by
  intro s
  rcases hd : drain s.config .kbd s with ⟨kind | d, s'⟩
  · obtain ⟨-, -, hout⟩ := drain_frame hd
    exact ⟨_, congrArg Host.Outcome.next (kbdHandler_of_drain hd), by simp [hout]⟩
  · obtain ⟨-, -, hout⟩ := drain_frame hd
    refine ⟨_, congrArg Host.Outcome.next (kbdHandler_of_drain hd), ?_⟩
    rcases kbdReassemble_cases s.config d s' with ⟨hd, heq⟩ | ⟨hd, -, heq⟩ | ⟨hd, -, heq⟩
    · simp only [heq, if_pos hd]
      exact hout
    · simp only [heq, if_neg hd]
      exact ⟨_, _, _, _, by rw [emit_out, clearPending_out, hout]⟩
    · simp only [heq, if_neg hd]
      exact ⟨_, _, _, _, by rw [emit_out, hout]⟩

/-- Settles O31: a data read ends in a report or in the reassembler, which both keep the byte it
recorded; every other operation keeps `KBD_LAST`. -/
theorem kbdLastIsLastByteRead : Obligations.KbdLastIsLastByteRead := by
  constructor
  · intro s k hfull
    refine ⟨_, rfl, ?_⟩
    cases hv : validateKbd s.config (statusAt s.config s k) with
    | some kind => rw [kbdHandler_of_invalid hfull hv, emit_kbdLast, recordLastKbd_kbdLast]
    | none => rw [kbdHandler_of_valid hfull hv, kbdReassemble_kbdLast, recordLastKbd_kbdLast]
  · intro i s t hexec hlast
    by_contra hnot
    obtain ⟨hint, hirq⟩ := not_or.mp hnot
    obtain ⟨t', hexec', hlast'⟩ :=
      exec_keeps_kbdLast i hint fun m him hrun => hirq ⟨m, him, hrun⟩
    obtain rfl : t' = t := Host.Outcome.next.inj (hexec'.symm.trans hexec)
    exact hlast hlast'

/-- Settles O36, by induction on the operations; the parameters are carried along, since they say
which operations those are. -/
theorem keyboardStateSurvivesOtherOps : Obligations.KeyboardStateSurvivesOtherOps := by
  suffices h : ∀ (is : List Instr) (s : State), (∀ i ∈ is, touchesKeyboard s.config i = false) →
      ∃ t, execAll is s = .next t ∧ keyboardPart t = keyboardPart s by
    intro is s his
    obtain ⟨t, hrun, ht⟩ := h is s his
    exact ⟨t, hrun, (keyboardPart_eq_iff.mp ht).1⟩
  intro is
  induction is with
  | nil => exact fun s _ => ⟨s, rfl, rfl⟩
  | cons i is ih =>
    intro s his
    obtain ⟨hi, hrest⟩ := List.forall_mem_cons.mp his
    obtain ⟨u, hexec, hu⟩ := exec_keeps_keyboardPart i hi
    have hconfig : u.config = s.config := (keyboardPart_eq_iff.mp hu).2
    obtain ⟨t, hrun, ht⟩ := ih u (by rwa [hconfig])
    exact ⟨t, (execAll_cons hexec).trans hrun, ht.trans hu⟩

/-- Settles O35: the run's records, and the count of them. -/
theorem keyRecordsCountBytes : Obligations.KeyRecordsCountBytes := by
  intro bs s hstored
  obtain ⟨t, hrun, hout⟩ := execAll_kbdReasm bs s hstored
  exact ⟨t, hrun, hout, length_keyEvents s.config s.kbdPending bs⟩

/-- Settles O33: the word is the encoder's, and the three cases are the reassembler's. -/
theorem kbdReasmPairsPrefix : Obligations.KbdReasmPairsPrefix := by
  refine ⟨decode_kbdReasm_word, ?_⟩
  intro b s make
  rw [exec_kbdReasm]
  rcases kbdReassemble_cases s.config b s with ⟨hb, heq⟩ | ⟨hb, hpend, heq⟩ | ⟨hb, hpend, heq⟩
  · rw [heq, if_pos hb, armPrefix]
  · rw [heq, if_neg hb, if_pos hpend]
    rfl
  · rw [heq, if_neg hb, if_neg (by simp [hpend])]
    rfl

/-- Settles O34: `EXT_PREFIX` is stored again, and the byte after it pairs with it once. -/
theorem repeatedPrefixRearms : Obligations.RepeatedPrefixRearms := by
  intro s _ e
  refine ⟨⟨armPrefix e s, exec_kbdReasm_extPrefix s, rfl, rfl, rfl⟩,
    fun b hb => ⟨_, execAll_prefix_prefix_byte s hb, rfl, rfl⟩, fun hconfig => ?_⟩
  have hrun := execAll_prefix_prefix_byte s (b := 0x48#8) (by rw [hconfig]; decide)
  rw [hconfig] at hrun
  exact ⟨_, hrun, rfl⟩

end Sys2Proof.Safety
end

section
/-! PROOFS. The mouse (42_mouse.md): the packet reassembler slot by slot, the gesture step it ends
in, the mouse handler's outcomes, and what leaves the mouse registers unchanged. -/

namespace Sys2Proof.Safety

open Sys2Proof.Machine

section Mouse

variable {p : Config.Params} {s s' : State} {b b0 b0' b1 b2 : Byte}

/-! ## The packet reassembler, slot by slot -/

theorem exec_mouseReasm (b : Byte) (s : State) :
    exec (.mouseReasm b) s = .next (mouseReassemble s.config b s) := rfl

theorem exec_mouseReasm_of_sync (hslot : s.mouseSlot = .slot0)
    (hsync : b.getLsbD s.config.syncBit = true) :
    exec (.mouseReasm b) s = .next (captureByte0 s.config b s) := by
  simp [exec_mouseReasm, mouseReassemble, hslot, hsync]

theorem exec_mouseReasm_of_noSync (hslot : s.mouseSlot = .slot0)
    (hsync : b.getLsbD s.config.syncBit = false) :
    exec (.mouseReasm b) s = .next (emit (.discard .mouse .syncError) s) := by
  simp [exec_mouseReasm, mouseReassemble, hslot, hsync]

theorem exec_mouseReasm_of_slot1 (b : Byte) (hslot : s.mouseSlot = .slot1) :
    exec (.mouseReasm b) s = .next (captureByte1 s.config b s) := by
  simp [exec_mouseReasm, mouseReassemble, hslot]

theorem exec_mouseReasm_of_slot2 (b : Byte) (hslot : s.mouseSlot = .slot2) :
    exec (.mouseReasm b) s = .next (packetComplete s.config (captureByte2 s.config b s)) := by
  simp [exec_mouseReasm, mouseReassemble, hslot]

/-! ## The mouse registers -/

/-- The mouse registers, with the parameters that say which operations reach them. -/
def mousePart (s : State) :
    (Slot × Byte × Byte × Byte) × (Bool × Bool × Int × Int) × Config.Params :=
  ((s.mouseSlot, s.mouseB0, s.mouseB1, s.mouseB2), (s.mouseXS, s.mouseYS, s.mouseDX, s.mouseDY),
    s.config)

theorem mousePart_eq_iff :
    mousePart s' = mousePart s ↔ sameMouse s s' ∧ s'.config = s.config := by
  simp [mousePart, sameMouse, and_assoc]

theorem mousePart_gestureStep (p : Config.Params) (btn : Buttons) (dx dy : Int) (s : State) :
    mousePart (gestureStep p btn dx dy s) = mousePart s := by
  rcases gestureStep_cases p btn dx dy s with
    ⟨heq, -⟩ | ⟨g, -, -, heq⟩ | ⟨-, heq⟩ | ⟨-, heq⟩ | ⟨-, heq⟩ <;> rw [heq] <;> rfl

/-- A completed packet is recorded and steps the gesture; its registers stand (R183, R185). -/
theorem mousePart_packetComplete (p : Config.Params) (s : State) :
    mousePart (packetComplete p s) = mousePart s :=
  mousePart_gestureStep p _ _ _ _

/-- A drain of either channel writes no mouse register (R130, R174). -/
theorem mousePart_drain (p : Config.Params) (ch : Channel) (s : State) :
    mousePart (drain p ch s).2 = mousePart s := by
  rcases drain_state_cases p ch s with ⟨k, d, heq⟩ | heq <;> rw [heq]
  · cases ch <;> rfl
  · rfl

theorem mousePart_kbdReassemble (p : Config.Params) (b : Byte) (s : State) :
    mousePart (kbdReassemble p b s) = mousePart s := by
  rcases kbdReassemble_cases p b s with ⟨-, heq⟩ | ⟨-, -, heq⟩ | ⟨-, -, heq⟩ <;> rw [heq] <;> rfl

theorem mousePart_kbdHandler (p : Config.Params) (s : State) :
    mousePart (kbdHandler p s) = mousePart s := by
  rcases kbdHandler_cases p s with ⟨kind, heq⟩ | ⟨d, heq⟩
  · rw [heq]
    exact mousePart_drain p .kbd s
  · rw [heq, mousePart_kbdReassemble, mousePart_drain]

/-- An IRQ whose mouse bit is clear runs at most the keyboard handler (R266). -/
theorem mousePart_irqDispatch {m : Byte} (h : m.getLsbD p.irqBitMouse = false) :
    mousePart (irqDispatch p m s) = mousePart s := by
  have hmouse : irqMouse p m (irqKbd p m s) = irqKbd p m s := if_neg (by simp [h])
  rw [irqDispatch, hmouse]
  unfold irqKbd
  split
  · exact mousePart_kbdHandler p s
  · rfl

/-- Every operation answers a next state; one that can hand no byte to the packet reassembler keeps
the mouse registers in it (R189). -/
theorem exec_keeps_mousePart (i : Instr) (h : touchesMouse s.config i = false) :
    ∃ t, exec i s = .next t ∧ mousePart t = mousePart s := by
  cases i with
  | nop => exact ⟨_, rfl, rfl⟩
  | sub ch => exact ⟨_, rfl, rfl⟩
  | unsub ch => exact ⟨_, rfl, rfl⟩
  | irq m => exact ⟨_, rfl, mousePart_irqDispatch h⟩
  | kbdInt => exact ⟨_, rfl, mousePart_kbdHandler s.config s⟩
  | kbdReasm b => exact ⟨_, rfl, mousePart_kbdReassemble s.config b s⟩
  | mouseInt => exact absurd h nofun
  | mouseReasm b => exact absurd h nofun
  | gestStep lb rb mb dx dy => exact ⟨_, rfl, mousePart_gestureStep s.config _ dx dy s⟩
  | gestReset => exact ⟨_, rfl, rfl⟩
  | gestCfg xLen tol => exact ⟨_, rfl, rfl⟩

/-- What each operation of a sequence keeps, the sequence keeps, and it answers a next state. -/
theorem execAll_keeps {Kept : State → Prop} {is : List Instr}
    (hstep : ∀ i ∈ is, ∀ u, Kept u → ∃ t, exec i u = .next t ∧ Kept t) (h : Kept s) :
    ∃ t, execAll is s = .next t ∧ Kept t := by
  induction is generalizing s with
  | nil => exact ⟨s, rfl, h⟩
  | cons i is ih =>
    obtain ⟨hi, hrest⟩ := List.forall_mem_cons.mp hstep
    obtain ⟨u, hexec, hu⟩ := hi s h
    obtain ⟨t, hrun, ht⟩ := ih hrest hu
    exact ⟨t, (execAll_cons hexec).trans hrun, ht⟩

/-! ## The packet's records -/

/-- The gesture step emits nothing or its one record (R212, R227). -/
theorem gestureStep_out (p : Config.Params) (btn : Buttons) (dx dy : Int) (s : State) :
    (gestureStep p btn dx dy s).out = s.out ∨
      (gestureStep p btn dx dy s).out = s.out ++ [0x83000000#32] := by
  rcases gestureStep_cases p btn dx dy s with
    ⟨heq, -⟩ | ⟨g, -, -, heq⟩ | ⟨-, heq⟩ | ⟨-, heq⟩ | ⟨-, heq⟩ <;> rw [heq]
  case inr.inr.inr.inr => exact .inr rfl
  all_goals exact .inl rfl

/-- A completed packet emits its PACKET record first, then what the gesture step emits (R185). -/
theorem packetComplete_out (p : Config.Params) (s : State) :
    (packetComplete p s).out = s.out ++ [(Record.packet s.mouseB0 s.mouseB1 s.mouseB2).word] ∨
      (packetComplete p s).out =
        s.out ++ [(Record.packet s.mouseB0 s.mouseB1 s.mouseB2).word, 0x83000000#32] := by
  rcases gestureStep_out p (buttonsOf p s.mouseB0) s.mouseDX s.mouseDY
    (emit (.packet s.mouseB0 s.mouseB1 s.mouseB2) s) with hout | hout
  · exact .inl hout
  · exact .inr (by rw [packetComplete, hout, emit_out, List.append_assoc]; rfl)

/-! ## What the gesture step does not read -/

/-- The state with `b0` in `MOUSE_B0` and with the records `earlier` ahead of its own. -/
def recordedAfter (b0 : Byte) (earlier : List Word) (s : State) : State :=
  { s with mouseB0 := b0, out := earlier ++ s.out }

/-- STROKE_2's arm is the only one that emits, and it appends behind what was emitted earlier. -/
theorem stepStrokeTwo_recordedAfter (p : Config.Params) (btn : Buttons) (dx dy : Int) (b0 : Byte)
    (earlier : List Word) (s : State) :
    stepStrokeTwo p btn dx dy (recordedAfter b0 earlier s) =
      recordedAfter b0 earlier (stepStrokeTwo p btn dx dy s) := by
  have hdone : emit .gestureDone (transition .complete (recordedAfter b0 earlier s)) =
      recordedAfter b0 earlier (emit .gestureDone (transition .complete s)) := by
    simp [emit_eq, transition, recordedAfter]
  simp only [stepStrokeTwo, hdone, apply_ite (recordedAfter b0 earlier)]
  rfl

/-- The gesture step reads neither `MOUSE_B0` nor the output stream (R188, R212). -/
theorem gestureStep_recordedAfter (p : Config.Params) (btn : Buttons) (dx dy : Int) (b0 : Byte)
    (earlier : List Word) (s : State) :
    gestureStep p btn dx dy (recordedAfter b0 earlier s) =
      recordedAfter b0 earlier (gestureStep p btn dx dy s) := by
  have hstate : (recordedAfter b0 earlier s).gestState = s.gestState := rfl
  cases hg : s.gestState with
  | idle =>
    simp only [gestureStep, hstate, hg, apply_ite (recordedAfter b0 earlier)]
    rfl
  | stroke1 =>
    simp only [gestureStep, hstate, hg, stepStrokeOne, apply_ite (recordedAfter b0 earlier)]
    rfl
  | apex =>
    simp only [gestureStep, hstate, hg, stepApex, apply_ite (recordedAfter b0 earlier)]
    rfl
  | stroke2 =>
    simp only [gestureStep, hstate, hg, stepStrokeTwo_recordedAfter]
  | complete => simp only [gestureStep, hstate, hg]

/-! ## Three bytes from slot 0 -/

/-- The three captures of a packet whose first byte has its sync bit (R181 to R183). -/
def capturePacket (p : Config.Params) (b0 b1 b2 : Byte) (s : State) : State :=
  captureByte2 p b2 (captureByte1 p b1 (captureByte0 p b0 s))

theorem execAll_three {i j k : Instr} {t u v : State} (hi : exec i s = .next t)
    (hj : exec j t = .next u) (hk : exec k u = .next v) : execAll [i, j, k] s = .next v :=
  (execAll_cons hi).trans ((execAll_cons hj).trans (execAll_cons hk))

theorem execAll_packet (b1 b2 : Byte) (hslot : s.mouseSlot = .slot0)
    (hsync : b0.getLsbD s.config.syncBit = true) :
    execAll [.mouseReasm b0, .mouseReasm b1, .mouseReasm b2] s =
      .next (packetComplete s.config (capturePacket s.config b0 b1 b2 s)) :=
  execAll_three (exec_mouseReasm_of_sync hslot hsync) (exec_mouseReasm_of_slot1 b1 rfl)
    (exec_mouseReasm_of_slot2 b2 rfl)

/-- From slot 0, three bytes whose first has no sync bit: each byte is tested on its own and dropped
with a SyncError, until one opens a packet (R186, 90_conflicts C8). -/
theorem execAll_unsynced (b1 b2 : Byte) (hslot : s.mouseSlot = .slot0)
    (hb0 : b0.getLsbD s.config.syncBit = false) : ∃ t n,
    execAll [.mouseReasm b0, .mouseReasm b1, .mouseReasm b2] s = .next t ∧
      t.out = s.out ++ List.replicate n 0x84000105#32 ∧
      (t.mouseSlot = .slot0 ↔
        b1.getLsbD s.config.syncBit = false ∧ b2.getLsbD s.config.syncBit = false) := by
  have hfirst := exec_mouseReasm_of_noSync hslot hb0
  cases hb1 : b1.getLsbD s.config.syncBit with
  | true =>
    exact ⟨_, 1, execAll_three hfirst (exec_mouseReasm_of_sync hslot hb1)
      (exec_mouseReasm_of_slot1 b2 rfl), by simp, by simp⟩
  | false =>
    have hsecond := exec_mouseReasm_of_noSync (s := emit (.discard .mouse .syncError) s) hslot hb1
    cases hb2 : b2.getLsbD s.config.syncBit with
    | true =>
      exact ⟨_, 2, execAll_three hfirst hsecond (exec_mouseReasm_of_sync hslot hb2),
        by simp [List.replicate], by simp⟩
    | false =>
      exact ⟨_, 3, execAll_three hfirst hsecond (exec_mouseReasm_of_noSync hslot hb2),
        by simp [List.replicate], by simp [hslot]⟩

/-- The registers that a packet writes and the gesture step may read, before it emits anything: the
first byte enters by its sign bits only. -/
def openedPacket (p : Config.Params) (b0 b1 b2 : Byte) (s : State) : State :=
  { capturePacket p b0 b1 b2 s with mouseB0 := s.mouseB0, out := [] }

/-- A packet's end state, with what it records of its first byte set apart from the gesture step. -/
theorem packetComplete_capturePacket (p : Config.Params) (b0 b1 b2 : Byte) (s : State) :
    packetComplete p (capturePacket p b0 b1 b2 s) =
      recordedAfter b0 (s.out ++ [(Record.packet b0 b1 b2).word])
        (gestureStep p (buttonsOf p b0) (deltaOf p (b0.getLsbD p.xsignBit) b1)
          (deltaOf p (b0.getLsbD p.ysignBit) b2) (openedPacket p b0 b1 b2 s)) := by
  rw [← gestureStep_recordedAfter]
  simp [packetComplete, capturePacket, openedPacket, recordedAfter, emit_eq, captureByte0,
    captureByte1, captureByte2]

/-- R9: no other bit parameter of mouse byte 0 is an overflow bit. -/
theorem mouseBits_ne_overflowBits (h : p.wellFormed = true) :
    ∀ n ∈ [p.lbBit, p.rbBit, p.mbBit, p.syncBit, p.xsignBit, p.ysignBit],
      n ≠ p.xovBit ∧ n ≠ p.yovBit := by
  have hdistinct : distinctByteBits ([p.lbBit, p.rbBit, p.mbBit, p.syncBit, p.xsignBit, p.ysignBit]
      ++ [p.xovBit, p.yovBit]) = true := by
    simp only [Config.Params.wellFormed, Bool.and_eq_true] at h
    tauto
  simp only [distinctByteBits, Bool.and_eq_true, decide_eq_true_eq] at hdistinct
  obtain ⟨-, -, hapart⟩ := List.nodup_append.mp hdistinct.2
  exact fun n hn => ⟨hapart n hn _ (by simp), hapart n hn _ (by simp)⟩

/-- Bytes that differ only in the overflow bits agree in every other bit parameter of byte 0. -/
theorem mouseBits_agree (h : p.wellFormed = true)
    (hbits : ∀ n, n ≠ p.xovBit → n ≠ p.yovBit → b0'.getLsbD n = b0.getLsbD n) :
    ∀ n ∈ [p.lbBit, p.rbBit, p.mbBit, p.syncBit, p.xsignBit, p.ysignBit],
      b0'.getLsbD n = b0.getLsbD n := by
  intro n hn
  obtain ⟨hx, hy⟩ := mouseBits_ne_overflowBits h n hn
  exact hbits n hx hy

/-! ## The mouse handler after a drain -/

/-- A data byte whose sample fails the validation is reported and lost (R173, R174). -/
theorem mouseHandler_of_invalid {k : Nat} {kind : ErrorKind} (h : firstFull p s k)
    (hv : validateMouse p (statusAt p s k) = some kind) :
    mouseHandler p s = emit (.discard .mouse kind) (afterDrain p (k + 1) s) := by
  have hd := drain_of_firstFull .mouse h
  simp only [validate, hv, recordLast_mouse] at hd
  exact mouseHandler_of_drain hd

/-- The mouse's origin test is the keyboard's inverted, and the order of the kinds is the same
(R173). -/
theorem validateMouse_of_errorBit {st : Byte}
    (h : st.getLsbD p.stParity = true ∨ st.getLsbD p.stTimeout = true ∨
      st.getLsbD p.stAux = false) :
    validateMouse p st = some (firstErrorKind p st) := by
  unfold validateMouse firstErrorKind
  split_ifs with hparity htimeout haux
  · rfl
  · rfl
  · rfl
  · simp [hparity, htimeout] at h
    simp [h] at haux

theorem discard_mouse_firstErrorKind_word (p : Config.Params) (st : Byte) :
    (Record.discard .mouse (firstErrorKind p st)).word =
      if st.getLsbD p.stParity then 0x84000102#32
      else if st.getLsbD p.stTimeout then 0x84000103#32 else 0x84000104#32 := by
  unfold firstErrorKind
  split_ifs <;> simp

end Mouse

/-! ## The statements -/

/-- Settles O29: the sample fails the validation, with the first kind in R173's order; the poll
timeout is the mouse half of R136. -/
theorem mouseIntDiscardsBadByte : Obligations.MouseIntDiscardsBadByte := by
  constructor
  · intro s k p hfull hbits
    rw [exec_mouseInt, mouseHandler_of_invalid hfull (validateMouse_of_errorBit hbits), emit_eq,
      discard_mouse_firstErrorKind_word]
    rfl
  · intro s p hnever
    exact (pollTimeoutReadsNoData s hnever).2

/-- Settles O42: a first byte with its sync bit opens a packet, which the third byte completes; the
gesture step that follows keeps the packet's registers. -/
theorem resynchronizationLaw : Obligations.ResynchronizationLaw := by
  intro b0 b1 b2 s hslot sync
  refine ⟨execAll_unsynced b1 b2 hslot, fun hb0 => ?_⟩
  have hpart := mousePart_packetComplete s.config (capturePacket s.config b0 b1 b2 s)
  obtain ⟨⟨hclosed, -, -, -, -, -, hdx, hdy⟩, -⟩ := mousePart_eq_iff.mp hpart
  refine ⟨_, _, _, exec_mouseReasm_of_sync hslot hb0, exec_mouseReasm_of_slot1 b1 rfl,
    exec_mouseReasm_of_slot2 b2 rfl, rfl, rfl,
    packetComplete_out s.config (capturePacket s.config b0 b1 b2 s), fun hwidth => ?_, hclosed⟩
  exact ⟨hdx.trans (deltaOf_eq _ b1 hwidth), hdy.trans (deltaOf_eq _ b2 hwidth)⟩

/-- Settles O43, by the drain's result and, for a byte, by what the reassembler does with it; the
drain itself keeps the slot, the packet's bytes and the output stream. -/
theorem mouseIntOutcomes : Obligations.MouseIntOutcomes := by
  intro s
  have hpart := mousePart_drain s.config .mouse s
  rcases hd : drain s.config .mouse s with ⟨kind | d, s'⟩
  · obtain ⟨-, -, hout⟩ := drain_frame hd
    exact ⟨_, congrArg Host.Outcome.next (mouseHandler_of_drain hd), by simp [hout]⟩
  · obtain ⟨-, -, hout⟩ := drain_frame hd
    rw [hd] at hpart
    obtain ⟨⟨hslot, hbyte0, hbyte1, -⟩, -⟩ := mousePart_eq_iff.mp hpart
    refine ⟨_, congrArg Host.Outcome.next (mouseHandler_of_drain hd), ?_⟩
    rcases mouseReassemble_cases s.config d s' with
      ⟨hat, hsync, heq⟩ | ⟨hat, hsync, heq⟩ | ⟨hat, heq⟩ | ⟨hat, heq⟩ <;>
      simp only [heq, ← hslot, hat, ← hbyte0, ← hbyte1, ← hout]
    · simp [hsync]
    · simp [hsync]
    · exact captureByte1_out s.config d s'
    · exact packetComplete_out s.config (captureByte2 s.config d s')

/-- Settles O44: each operation of the sequence keeps the mouse registers, and with them the
parameters, which say which operations those are. -/
theorem mouseStateSurvivesOtherOps : Obligations.MouseStateSurvivesOtherOps := by
  intro is s his
  have hstep : ∀ i ∈ is, ∀ u, mousePart u = mousePart s →
      ∃ t, exec i u = .next t ∧ mousePart t = mousePart s := by
    intro i hi u hu
    have hconfig : u.config = s.config := (mousePart_eq_iff.mp hu).2
    obtain ⟨t, hexec, ht⟩ := exec_keeps_mousePart i (by rw [hconfig]; exact his i hi)
    exact ⟨t, hexec, ht.trans hu⟩
  obtain ⟨t, hrun, ht⟩ := execAll_keeps (Kept := fun u => mousePart u = mousePart s) hstep rfl
  exact ⟨t, hrun, (mousePart_eq_iff.mp ht).1⟩

/-- Settles O45: the two packets have the same buttons and signs, hence the same deltas, so their
gesture steps run from the same state but for what was recorded before. -/
theorem overflowBitsOnlyRecorded : Obligations.OverflowBitsOnlyRecorded := by
  intro b0 b0' b1 b2 s hwf hslot hsync hbits
  have hagree := mouseBits_agree hwf hbits
  have hsync' : b0'.getLsbD s.config.syncBit = true := by
    rw [hagree _ (by simp), hsync]
  have hbuttons : buttonsOf s.config b0' = buttonsOf s.config b0 := by
    simp [buttonsOf, hagree]
  have hxs : b0'.getLsbD s.config.xsignBit = b0.getLsbD s.config.xsignBit := hagree _ (by simp)
  have hys : b0'.getLsbD s.config.ysignBit = b0.getLsbD s.config.ysignBit := hagree _ (by simp)
  have hopened : openedPacket s.config b0' b1 b2 s = openedPacket s.config b0 b1 b2 s := by
    simp [openedPacket, capturePacket, captureByte0, captureByte1, captureByte2, hxs, hys]
  rw [execAll_packet b1 b2 hslot hsync, execAll_packet b1 b2 hslot hsync',
    packetComplete_capturePacket, packetComplete_capturePacket, hbuttons, hxs, hys, hopened]
  refine ⟨_, _, rfl, List.append_cons .. |>.symm, ?_⟩
  simp [recordedAfter]

/-- Settles O38: the captures of byte 0 are R181's writes. -/
theorem slotZeroTakesSyncByte : Obligations.SlotZeroTakesSyncByte := by
  intro b s hslot hsync
  rw [exec_mouseReasm_of_sync hslot hsync, captureByte0]

/-- Settles O39: the byte is reported, and reporting writes no register. -/
theorem slotZeroRejectsUnsyncedByte : Obligations.SlotZeroRejectsUnsyncedByte := by
  intro b s hslot hsync
  rw [exec_mouseReasm_of_noSync hslot hsync, emit_eq, discard_mouse_syncError_word]

/-- Settles O40: the captures of byte 1 are R182's writes, and the register holds R94's delta. -/
theorem slotOneTakesDeltaX : Obligations.SlotOneTakesDeltaX := by
  intro b s hslot hwidth
  rw [exec_mouseReasm_of_slot1 b hslot, captureByte1, deltaOf_eq _ b hwidth]

/-- Settles O41: the packet is recorded with byte 2 in place, and GEST_STEP takes the same gesture
step. -/
theorem slotTwoCompletesPacket : Obligations.SlotTwoCompletesPacket := by
  intro b s hslot hwidth
  refine ⟨_, rfl, ?_⟩
  rw [exec_mouseReasm_of_slot2 b hslot, captureByte2, deltaOf_eq _ b hwidth]
  rfl

end Sys2Proof.Safety
end

section
/-! PROOFS. The gesture FSM (43_gesture.md): the table of R233 against the procedure of R212, the sums'
overflow, what each operation can do to the gesture, and when GESTURE_DONE is emitted. -/

namespace Sys2Proof.Safety

open Sys2Proof.Machine

section Gesture

variable {p : Config.Params} {s t u : State}

/-! ## The operations of the gesture -/

theorem exec_gestStep (lb rb mb : Bool) (dx dy : Int) (s : State) :
    exec (.gestStep lb rb mb dx dy) s = .next (gestureStep s.config ⟨lb, rb, mb⟩ dx dy s) := rfl

theorem exec_gestReset (s : State) : exec .gestReset s = .next (transition .idle s) := rfl

theorem exec_gestCfg (xLen tol : Byte) (s : State) :
    exec (.gestCfg xLen tol) s = .next (writeParams s.config xLen tol s) := rfl

theorem gestureStep_of_complete (p : Config.Params) (btn : Buttons) (dx dy : Int)
    (hg : s.gestState = .complete) : gestureStep p btn dx dy s = s := by
  simp only [gestureStep, hg]

/-! ## The transition table, cell by cell -/

section Buttons

variable {lb rb mb : Bool}

theorem leftOnly_eq_false (h : lb = true → rb = false → mb = false → False) :
    leftOnly ⟨lb, rb, mb⟩ = false := by
  simpa [leftOnly] using h

theorem rightOnly_eq_false (h : lb = false → rb = true → mb = false → False) :
    rightOnly ⟨lb, rb, mb⟩ = false := by
  simpa [rightOnly] using h

theorem released_eq_false (h : lb = false → rb = false → mb = false → False) :
    released ⟨lb, rb, mb⟩ = false := by
  simpa [released] using h

/-- A triple that is neither right-only nor released has the left or the middle button. -/
theorem left_or_middle (hright : lb = false → rb = true → mb = false → False)
    (hreleased : lb = false → rb = false → mb = false → False) : lb = true ∨ mb = true := by
  by_contra hnot
  obtain ⟨hl, hm⟩ : lb = false ∧ mb = false := by simpa using hnot
  cases hr : rb with
  | false => exact hreleased hl hr hm
  | true => exact hright hl hr hm

end Buttons

theorem strokeOneBackward_eq_true_iff (tol dx dy : Int) :
    strokeOneBackward tol dx dy = true ↔ dx < -tol ∨ dy < -tol := by
  simp only [strokeOneBackward, Bool.or_eq_true, decide_eq_true_eq]

theorem strokeTwoBackward_eq_true_iff (tol dx dy : Int) :
    strokeTwoBackward tol dx dy = true ↔ dx < -tol ∨ tol < dy := by
  simp only [strokeTwoBackward, Bool.or_eq_true, decide_eq_true_eq, gt_iff_lt]

/-- R233's `abs(dx) ≤ tol and abs(dy) ≤ tol` is the failure of R219's motion test. -/
theorem small_eq_not_motionExceeds (tol dx dy : Int) :
    (decide (-tol ≤ dx) && decide (dx ≤ tol) && decide (-tol ≤ dy) && decide (dy ≤ tol)) =
      !motionExceeds tol dx dy := by
  rw [Bool.eq_iff_iff]
  simp only [motionExceeds, Bool.not_eq_true', Bool.or_eq_false_iff, Bool.and_eq_true,
    decide_eq_true_eq, decide_eq_false_iff_not]
  omega

/-- R212's procedure does what R233's table says, in each of the table's cells. -/
theorem gestureStep_eq_gestureTable (lb rb mb : Bool) (dx dy : Int) (s : State) :
    gestureStep s.config ⟨lb, rb, mb⟩ dx dy s = gestureTable lb rb mb dx dy s := by
  simp only [gestureTable]
  split
  -- IDLE
  case h_1 hg => simp [gestureStep, hg, leftOnly, transition]
  case h_2 hg hother => simp [gestureStep, hg, leftOnly_eq_false hother]
  -- STROKE_1
  case h_3 hg =>
    simp [gestureStep, stepStrokeOne, hg, leftOnly, strokeOneBackward_eq_true_iff, tolOf,
      transition, writeSums, addClampedBelow, wrapTo_eq_wrapped]
  case h_4 hg =>
    simp [gestureStep, stepStrokeOne, hg, leftOnly, released, strokeOneDone, xLenOf, transition]
  case h_5 hg hleft hreleased =>
    simp [gestureStep, stepStrokeOne, hg, leftOnly_eq_false hleft, released_eq_false hreleased,
      transition]
  -- APEX
  case h_6 hg =>
    by_cases hm : motionExceeds s.gestTol dx dy = true <;>
      simp [gestureStep, stepApex, hg, small_eq_not_motionExceeds, tolOf, hm, transition]
  case h_7 hg =>
    by_cases hm : motionExceeds s.gestTol dx dy = true <;>
      simp [gestureStep, stepApex, hg, small_eq_not_motionExceeds, tolOf, hm, transition]
  case h_8 hg hright hreleased =>
    simp [gestureStep, stepApex, hg, left_or_middle hright hreleased, transition]
  -- STROKE_2
  case h_9 hg =>
    simp [gestureStep, stepStrokeTwo, hg, rightOnly, strokeTwoBackward_eq_true_iff, tolOf,
      transition, writeSums, addClampedBelow, addClampedAbove, wrapTo_eq_wrapped]
  case h_10 hg =>
    simp [gestureStep, stepStrokeTwo, hg, rightOnly, released, strokeTwoDone, xLenOf, transition,
      emit_eq]
  case h_11 hg hright hreleased =>
    simp [gestureStep, stepStrokeTwo, hg, rightOnly_eq_false hright, released_eq_false hreleased,
      transition]
  -- COMPLETE
  case h_12 hg => exact gestureStep_of_complete s.config _ dx dy hg

theorem exec_gestStep_eq_table (lb rb mb : Bool) (dx dy : Int) (s : State) :
    exec (.gestStep lb rb mb dx dy) s = .next (gestureTable lb rb mb dx dy s) := by
  rw [exec_gestStep, gestureStep_eq_gestureTable]

/-! ## The cells of a stroke's self-loop and of the middle button -/

theorem gestureTable_strokeOne_left {dx dy : Int} (hg : s.gestState = .stroke1)
    (hdx : -(s.gestTol : Int) ≤ dx) (hdy : -(s.gestTol : Int) ≤ dy) :
    gestureTable true false false dx dy s =
      { s with
        xSum := max 0 (wrapped s.config.sumWidth (s.xSum + dx))
        ySum := max 0 (wrapped s.config.sumWidth (s.ySum + dy)) } := by
  simp only [gestureTable, hg]
  exact if_neg (by omega)

theorem gestureTable_strokeTwo_right {dx dy : Int} (hg : s.gestState = .stroke2)
    (hdx : -(s.gestTol : Int) ≤ dx) (hdy : dy ≤ s.gestTol) :
    gestureTable false true false dx dy s =
      { s with
        xSum := max 0 (wrapped s.config.sumWidth (s.xSum + dx))
        ySum := min 0 (wrapped s.config.sumWidth (s.ySum + dy)) } := by
  simp only [gestureTable, hg]
  exact if_neg (by omega)

theorem gestureRegisters_eta {g : GestState} {x y : Int} (hg : s.gestState = g) (hx : s.xSum = x)
    (hy : s.ySum = y) : ({ s with gestState := g, xSum := x, ySum := y } : State) = s := by
  subst hg hx hy
  rfl

/-- The middle button's column of the table, in a stroke and in APEX (R231). -/
theorem gestureTable_middle (lb rb : Bool) (dx dy : Int) (hidle : s.gestState ≠ .idle)
    (hcomplete : s.gestState ≠ .complete) :
    gestureTable lb rb true dx dy s = { s with gestState := .idle, xSum := 0, ySum := 0 } := by
  cases hg : s.gestState with
  | idle => exact absurd hg hidle
  | stroke1 => simp [gestureTable, hg]
  | apex => simp [gestureTable, hg]
  | stroke2 => simp [gestureTable, hg]
  | complete => exact absurd hg hcomplete

theorem gestureTable_idle_middle (lb rb : Bool) (dx dy : Int) (hg : s.gestState = .idle) :
    gestureTable lb rb true dx dy s = s := by
  simp [gestureTable, hg]

/-! ## The overflow of a sum -/

section Overflow

variable {n : Nat} {sum d : Int}

/-- A register of at least 9 bits has room for a delta twice over. -/
theorem delta_range_le_two_pow (hn : 9 ≤ n) : (512 : Int) ≤ 2 ^ n :=
  calc (512 : Int) = 2 ^ 9 := by norm_num
    _ ≤ 2 ^ n := pow_le_pow_right₀ (by norm_num) hn

/-- A sum that leaves its range at the upper end comes round to the negative numbers (R230). -/
theorem wrapped_nonpos_of_overflow (hn : 9 ≤ n) (hfits : fitsSigned n sum) (hd : d ≤ 255)
    (hover : 2 ^ n ≤ 2 * (sum + d)) : wrapped n (sum + d) ≤ 0 := by
  have hpow := delta_range_le_two_pow hn
  obtain ⟨-, hlt⟩ := hfits
  have hmod : (sum + d) % 2 ^ n = sum + d := Int.emod_eq_of_lt (by omega) (by omega)
  rw [wrapped, hmod, if_neg (by omega)]
  omega

/-- A sum that leaves its range at the lower end comes round to the numbers from 0 up (R230). -/
theorem wrapped_nonneg_of_underflow (hn : 9 ≤ n) (hfits : fitsSigned n sum) (hd : -256 ≤ d)
    (hunder : 2 * (sum + d) < -2 ^ n) : 0 ≤ wrapped n (sum + d) := by
  have hpow := delta_range_le_two_pow hn
  obtain ⟨hle, -⟩ := hfits
  have hmod : (sum + d) % 2 ^ n = sum + d + 2 ^ n := by
    rw [← Int.add_emod_right, Int.emod_eq_of_lt (by omega) (by omega)]
  rw [wrapped, hmod, if_pos (by omega)]
  omega

end Overflow

/-! ## What each operation can do to the gesture -/

/-- From `s` to `t` the gesture FSM is left alone: its state stands, and no GESTURE_DONE is among the
records that were emitted. -/
structure GestureLeftAlone (s t : State) : Prop where
  gestState : t.gestState = s.gestState
  out : ∃ rs, t.out = s.out ++ rs ∧ 0x83000000#32 ∉ rs

theorem gestureLeftAlone_of_eq (hg : t.gestState = s.gestState) (hout : t.out = s.out) :
    GestureLeftAlone s t :=
  ⟨hg, [], by simp [hout], List.not_mem_nil⟩

theorem GestureLeftAlone.refl (s : State) : GestureLeftAlone s s := gestureLeftAlone_of_eq rfl rfl

theorem GestureLeftAlone.trans (hsu : GestureLeftAlone s u) (hut : GestureLeftAlone u t) :
    GestureLeftAlone s t := by
  obtain ⟨hg, rs, hout, hrs⟩ := hsu
  obtain ⟨hg', rs', hout', hrs'⟩ := hut
  exact ⟨hg'.trans hg, rs ++ rs', by rw [hout', hout, List.append_assoc], by simp [hrs, hrs']⟩

/-- The words of R109's four tags differ, so no other record reads as GESTURE_DONE. -/
theorem word_ne_gestureDone {r : Record} (h : r ≠ .gestureDone) : r.word ≠ 0x83000000#32 := by
  intro hword
  have htag := congrArg (BitVec.extractLsb' 24 8) hword
  cases r with
  | key make len by0 by1 =>
    obtain ⟨hkey, -⟩ := key_word_fields make len by0 by1
    exact absurd (hkey.symm.trans htag) (by decide)
  | packet b0 b1 b2 =>
    have hbit := congrArg (BitVec.getLsbD · 24) hword
    simp [Record.word] at hbit
  | gestureDone => exact h rfl
  | discard ch kind =>
    obtain ⟨-, -, -, hdiscard⟩ := discard_word_fields ch kind
    exact absurd (hdiscard.symm.trans htag) (by decide)

theorem gestureLeftAlone_emit {r : Record} (h : r ≠ .gestureDone) (s : State) :
    GestureLeftAlone s (emit r s) :=
  ⟨rfl, [r.word], rfl, by simpa using (word_ne_gestureDone h).symm⟩

theorem gestureLeftAlone_drain (p : Config.Params) (ch : Channel) (s : State) :
    GestureLeftAlone s (drain p ch s).2 := by
  rcases drain_state_cases p ch s with ⟨k, d, heq⟩ | heq <;> rw [heq]
  · cases ch <;> exact gestureLeftAlone_of_eq rfl rfl
  · exact gestureLeftAlone_of_eq rfl rfl

theorem gestureLeftAlone_kbdReassemble (p : Config.Params) (b : Byte) (s : State) :
    GestureLeftAlone s (kbdReassemble p b s) := by
  rcases kbdReassemble_cases p b s with ⟨-, heq⟩ | ⟨-, -, heq⟩ | ⟨-, -, heq⟩ <;> rw [heq]
  · exact gestureLeftAlone_of_eq rfl rfl
  · exact .trans (u := clearPending s) (gestureLeftAlone_of_eq rfl rfl)
      (gestureLeftAlone_emit (by nofun) (clearPending s))
  · exact gestureLeftAlone_emit (by nofun) s

theorem gestureLeftAlone_kbdHandler (p : Config.Params) (s : State) :
    GestureLeftAlone s (kbdHandler p s) := by
  have hdrain := gestureLeftAlone_drain p .kbd s
  rcases kbdHandler_cases p s with ⟨kind, heq⟩ | ⟨d, heq⟩ <;> rw [heq]
  · exact hdrain.trans (gestureLeftAlone_emit (by nofun) _)
  · exact hdrain.trans (gestureLeftAlone_kbdReassemble p d _)

theorem gestureLeftAlone_irqKbd (p : Config.Params) (m : Byte) (s : State) :
    GestureLeftAlone s (irqKbd p m s) := by
  unfold irqKbd
  split
  · exact gestureLeftAlone_kbdHandler p s
  · exact .refl s

/-- From `s` to `t` the gesture FSM is left alone, up to one gesture step at the end. -/
def AtMostOneGestureStep (s t : State) : Prop :=
  ∃ u, GestureLeftAlone s u ∧ (t = u ∨ ∃ p btn dx dy, t = gestureStep p btn dx dy u)

theorem GestureLeftAlone.atMostOneStep (h : GestureLeftAlone s t) : AtMostOneGestureStep s t :=
  ⟨t, h, .inl rfl⟩

theorem atMostOneGestureStep_of_eq (hg : t.gestState = s.gestState) (hout : t.out = s.out) :
    AtMostOneGestureStep s t :=
  (gestureLeftAlone_of_eq hg hout).atMostOneStep

theorem GestureLeftAlone.trans_step (hsu : GestureLeftAlone s u) (hut : AtMostOneGestureStep u t) :
    AtMostOneGestureStep s t := by
  obtain ⟨v, huv, hvt⟩ := hut
  exact ⟨v, hsu.trans huv, hvt⟩

theorem atMostOneGestureStep_gestureStep (p : Config.Params) (btn : Buttons) (dx dy : Int)
    (s : State) : AtMostOneGestureStep s (gestureStep p btn dx dy s) :=
  ⟨s, .refl s, .inr ⟨p, btn, dx, dy, rfl⟩⟩

theorem atMostOneGestureStep_packetComplete (p : Config.Params) (s : State) :
    AtMostOneGestureStep s (packetComplete p s) :=
  (gestureLeftAlone_emit (by nofun) s).trans_step (atMostOneGestureStep_gestureStep p _ _ _ _)

theorem atMostOneGestureStep_mouseReassemble (p : Config.Params) (b : Byte) (s : State) :
    AtMostOneGestureStep s (mouseReassemble p b s) := by
  rcases mouseReassemble_cases p b s with
    ⟨-, -, heq⟩ | ⟨-, -, heq⟩ | ⟨-, heq⟩ | ⟨-, heq⟩ <;> rw [heq]
  · exact (gestureLeftAlone_emit (by nofun) s).atMostOneStep
  · exact atMostOneGestureStep_of_eq rfl rfl
  · exact atMostOneGestureStep_of_eq rfl rfl
  · exact GestureLeftAlone.trans_step (u := captureByte2 p b s) (gestureLeftAlone_of_eq rfl rfl)
      (atMostOneGestureStep_packetComplete p (captureByte2 p b s))

theorem atMostOneGestureStep_mouseHandler (p : Config.Params) (s : State) :
    AtMostOneGestureStep s (mouseHandler p s) := by
  have hdrain := gestureLeftAlone_drain p .mouse s
  rcases mouseHandler_cases p s with ⟨kind, heq⟩ | ⟨d, heq⟩ <;> rw [heq]
  · exact (hdrain.trans (gestureLeftAlone_emit (by nofun) _)).atMostOneStep
  · exact hdrain.trans_step (atMostOneGestureStep_mouseReassemble p d _)

/-- An IRQ hands at most one byte to the packet reassembler, after the keyboard's half (R266). -/
theorem atMostOneGestureStep_irqDispatch (p : Config.Params) (m : Byte) (s : State) :
    AtMostOneGestureStep s (irqDispatch p m s) := by
  have hkbd := gestureLeftAlone_irqKbd p m s
  rw [irqDispatch, irqMouse]
  split
  · exact hkbd.trans_step (atMostOneGestureStep_mouseHandler p _)
  · exact hkbd.atMostOneStep

/-- Every operation answers a next state; GEST_RESET apart, it leaves the gesture alone up to one
gesture step at its end. -/
theorem exec_atMostOneGestureStep (i : Instr) (hi : i ≠ .gestReset) (s : State) :
    ∃ t, exec i s = .next t ∧ AtMostOneGestureStep s t := by
  cases i with
  | nop => exact ⟨_, rfl, atMostOneGestureStep_of_eq rfl rfl⟩
  | sub ch => exact ⟨_, rfl, atMostOneGestureStep_of_eq rfl rfl⟩
  | unsub ch => exact ⟨_, rfl, atMostOneGestureStep_of_eq rfl rfl⟩
  | irq m => exact ⟨_, rfl, atMostOneGestureStep_irqDispatch s.config m s⟩
  | kbdInt => exact ⟨_, rfl, (gestureLeftAlone_kbdHandler s.config s).atMostOneStep⟩
  | kbdReasm b => exact ⟨_, rfl, (gestureLeftAlone_kbdReassemble s.config b s).atMostOneStep⟩
  | mouseInt => exact ⟨_, rfl, atMostOneGestureStep_mouseHandler s.config s⟩
  | mouseReasm b => exact ⟨_, rfl, atMostOneGestureStep_mouseReassemble s.config b s⟩
  | gestStep lb rb mb dx dy =>
    exact ⟨_, rfl, atMostOneGestureStep_gestureStep s.config ⟨lb, rb, mb⟩ dx dy s⟩
  | gestReset => exact absurd rfl hi
  | gestCfg xLen tol => exact ⟨_, rfl, atMostOneGestureStep_of_eq rfl rfl⟩

/-! ## COMPLETE is terminal -/

theorem AtMostOneGestureStep.keeps_complete (h : AtMostOneGestureStep s t)
    (hg : s.gestState = .complete) : t.gestState = .complete := by
  obtain ⟨u, hsu, rfl | ⟨p, btn, dx, dy, rfl⟩⟩ := h
  · exact hsu.gestState.trans hg
  · have hu : u.gestState = .complete := hsu.gestState.trans hg
    rw [gestureStep_of_complete p btn dx dy hu, hu]

/-- In COMPLETE every operation but GEST_RESET stays there (R226). -/
theorem exec_keeps_complete {i : Instr} (hi : i ≠ .gestReset) (hg : s.gestState = .complete)
    (hexec : exec i s = .next t) : t.gestState = .complete := by
  obtain ⟨t', hexec', hmove⟩ := exec_atMostOneGestureStep i hi s
  obtain rfl : t' = t := Host.Outcome.next.inj (hexec'.symm.trans hexec)
  exact hmove.keeps_complete hg

/-! ## When GESTURE_DONE is emitted -/

/-- From `s` to `t` GESTURE_DONE is emitted exactly if COMPLETE is entered, once, and last. -/
def DoneOnEntry (s t : State) : Prop :=
  ∃ rs, t.out = s.out ++ rs ∧ rs.count 0x83000000#32 ≤ 1 ∧
    (0x83000000#32 ∈ rs ↔ s.gestState ≠ .complete ∧ t.gestState = .complete) ∧
    (0x83000000#32 ∈ rs → rs.getLast? = some 0x83000000#32)

theorem doneOnEntry_of_no_record (hout : t.out = s.out)
    (h : t.gestState = .complete → s.gestState = .complete) : DoneOnEntry s t :=
  ⟨[], by simp [hout], by simp, by simpa using fun hs ht => hs (h ht), by simp⟩

/-- Records emitted before, none of them GESTURE_DONE, change nothing of it. -/
theorem GestureLeftAlone.trans_done (hsu : GestureLeftAlone s u) (hut : DoneOnEntry u t) :
    DoneOnEntry s t := by
  obtain ⟨hg, rs, hout, hrs⟩ := hsu
  obtain ⟨rs', hout', hcount, hmem, hlast⟩ := hut
  refine ⟨rs ++ rs', by rw [hout', hout, List.append_assoc], ?_, ?_, ?_⟩
  · simpa [List.count_eq_zero_of_not_mem hrs] using hcount
  · simpa [hrs, hg] using hmem
  · intro hdone
    have hdone' : 0x83000000#32 ∈ rs' := by simpa [hrs] using hdone
    simp [List.getLast?_append, hlast hdone']

theorem doneOnEntry_gestureStep (p : Config.Params) (btn : Buttons) (dx dy : Int) (s : State) :
    DoneOnEntry s (gestureStep p btn dx dy s) := by
  rcases gestureStep_cases p btn dx dy s with
    ⟨heq, -⟩ | ⟨g, hg, -, heq⟩ | ⟨-, heq⟩ | ⟨-, heq⟩ | ⟨hg, heq⟩ <;> rw [heq]
  · exact doneOnEntry_of_no_record rfl id
  · exact doneOnEntry_of_no_record rfl fun hcomplete => absurd hcomplete hg
  · exact doneOnEntry_of_no_record rfl id
  · exact doneOnEntry_of_no_record rfl id
  · exact ⟨[0x83000000#32], rfl, by simp, by simp [hg], by simp⟩

theorem AtMostOneGestureStep.doneOnEntry (h : AtMostOneGestureStep s t) : DoneOnEntry s t := by
  obtain ⟨u, hsu, rfl | ⟨p, btn, dx, dy, rfl⟩⟩ := h
  · exact hsu.trans_done (doneOnEntry_of_no_record rfl id)
  · exact hsu.trans_done (doneOnEntry_gestureStep p btn dx dy u)

theorem exec_doneOnEntry (i : Instr) (s : State) : ∃ t, exec i s = .next t ∧ DoneOnEntry s t := by
  by_cases hi : i = .gestReset
  · subst hi
    exact ⟨_, exec_gestReset s, doneOnEntry_of_no_record rfl nofun⟩
  · obtain ⟨t, hexec, hmove⟩ := exec_atMostOneGestureStep i hi s
    exact ⟨t, hexec, hmove.doneOnEntry⟩

/-! ## The words of GEST_RESET and GEST_CFG -/

theorem decode_gestReset_word : decode 0x31000000#32 = .ok .gestReset :=
  decode_encode_eq_operandsOf Laws.EncodesItsRow.gestReset

/-- The bits of format G's word below the opcode (R101). -/
theorem getLsbD_formatG (opcode xLen tol : Byte) {i : Nat} (hi : i < 24) :
    (formatG opcode xLen tol).getLsbD i =
      if i < 8 then xLen.getLsbD i else tol.getLsbD (i - 8) := by
  simp only [formatG, BitVec.getLsbD_or, getLsbD_formatZ opcode (show i < 32 by omega),
    BitVec.getLsbD_shiftLeft, BitVec.getLsbD_setWidth]
  by_cases hlow : i < 8
  · simp [hlow, show ¬ 24 ≤ i by omega, show i < 32 by omega]
  · simp [hlow, show ¬ 24 ≤ i by omega, show i < 32 by omega, show i - 8 < 32 by omega,
      BitVec.getLsbD_of_ge xLen i (by omega)]

theorem extractLsb'_formatG_xLen (opcode xLen tol : Byte) :
    (formatG opcode xLen tol).extractLsb' 0 8 = xLen := by
  refine BitVec.eq_of_getLsbD_eq fun i hi => ?_
  rw [BitVec.getLsbD_extractLsb', getLsbD_formatG _ _ _ (by omega)]
  simp [hi]

theorem extractLsb'_formatG_tol (opcode xLen tol : Byte) :
    (formatG opcode xLen tol).extractLsb' 8 8 = tol := by
  refine BitVec.eq_of_getLsbD_eq fun i hi => ?_
  rw [BitVec.getLsbD_extractLsb', getLsbD_formatG _ _ _ (by omega)]
  simp [hi]

theorem encode_gestCfg (xLen tol : Byte) :
    encode (.gestCfg xLen tol) =
      0x32000000#32 ||| tol.setWidth 32 <<< 8 ||| xLen.setWidth 32 := rfl

theorem decode_gestCfg_word (xLen tol : Byte) :
    decode (0x32000000#32 ||| tol.setWidth 32 <<< 8 ||| xLen.setWidth 32) =
      .ok (.gestCfg xLen tol) := by
  rw [← encode_gestCfg, decode_encode_eq_operandsOf (Laws.EncodesItsRow.gestCfg xLen tol)]
  exact congrArg₂ (fun x y => Except.ok (Instr.gestCfg x y))
    (extractLsb'_formatG_xLen 0x32#8 xLen tol) (extractLsb'_formatG_tol 0x32#8 xLen tol)

/-- A threshold register of at least 8 bits holds the byte written (R44, R245). -/
theorem thresholdOf_eq_toNat (h : 8 ≤ p.paramWidth) (v : Byte) : thresholdOf p v = v.toNat :=
  Nat.mod_eq_of_lt (lt_of_lt_of_le v.isLt (Nat.pow_le_pow_right (by decide) h))

end Gesture

/-! ## The statements -/

/-- Settles O46, cell by cell. -/
theorem gestStepFollowsTable : Obligations.GestStepFollowsTable :=
  exec_gestStep_eq_table

/-- Settles O49: the stroke's cell of the table, and the sign that a sum past its range comes round
to. -/
theorem sumOverflowClampsToZero : Obligations.SumOverflowClampsToZero := by
  intro dx dy s _ hdx hdyLow hdy hback
  constructor
  · intro hg hdyBack
    refine ⟨_, _, ?_, rfl, rfl, fun hfits hn => ⟨fun hx => ?_, fun hy => ?_⟩⟩
    · rw [exec_gestStep_eq_table, gestureTable_strokeOne_left hg hback hdyBack]
    · exact max_eq_left (wrapped_nonpos_of_overflow hn hfits.xSum hdx hx)
    · exact max_eq_left (wrapped_nonpos_of_overflow hn hfits.ySum hdy hy)
  · intro hg hdyBack
    refine ⟨_, _, ?_, rfl, rfl, fun hfits hn => ⟨fun hx => ?_, fun hy => ?_⟩⟩
    · rw [exec_gestStep_eq_table, gestureTable_strokeTwo_right hg hback hdyBack]
    · exact max_eq_left (wrapped_nonpos_of_overflow hn hfits.xSum hdx hx)
    · exact min_eq_left (wrapped_nonneg_of_underflow hn hfits.ySum hdyLow hy)

/-- Settles O50: only a reset, and of the words only GEST_RESET's, does not keep COMPLETE. -/
theorem completeIsTerminal : Obligations.CompleteIsTerminal := by
  constructor
  · intro lb rb mb dx dy s hg
    rw [exec_gestStep, gestureStep_of_complete s.config _ dx dy hg]
  · intro s t hg hstep hleft
    cases hin : s.inputs with
    | nil =>
      obtain rfl : s = t := Host.Outcome.next.inj ((step_of_no_input hin).symm.trans hstep)
      exact absurd hg hleft
    | cons input rest =>
      refine ⟨rest, ?_⟩
      cases input with
      | reset => exact .inl rfl
      | word v =>
        refine .inr ⟨v, rfl, ?_⟩
        cases hdec : decodeCommand s.config v with
        | error reason =>
          obtain rfl := Host.Outcome.next.inj ((step_of_illegal_word hin hdec).symm.trans hstep)
          exact absurd hg hleft
        | ok i =>
          by_contra hne
          have hexec := (step_of_legal_word hin hdec).symm.trans hstep
          exact hleft (exec_keeps_complete (s := { s with inputs := rest })
            (fun hi => hne (congrArg Except.ok hi)) hg hexec)

/-- Settles O51: one gesture step at the end of an operation is all that can emit the record. -/
theorem gestureDoneOnceOnCompletion : Obligations.GestureDoneOnceOnCompletion := by
  intro i s t hexec
  obtain ⟨t', hexec', hdone⟩ := exec_doneOnEntry i s
  obtain rfl : t' = t := Host.Outcome.next.inj (hexec'.symm.trans hexec)
  exact hdone

/-- Settles O52: the middle button's column of the table; IDLE's sums are 0 by the invariant. -/
theorem middleButtonReturnsToIdle : Obligations.MiddleButtonReturnsToIdle := by
  intro lb rb dx dy s hinv
  constructor
  · intro hcomplete
    rw [exec_gestStep_eq_table]
    by_cases hg : s.gestState = .idle
    · obtain ⟨hx, hy⟩ := hinv.sumsZero (by simp [hg]) (by simp [hg])
      rw [gestureTable_idle_middle lb rb dx dy hg, gestureRegisters_eta hg hx hy]
    · rw [gestureTable_middle lb rb dx dy hg hcomplete]
  · exact fun hg => completeIsTerminal.1 lb rb true dx dy s hg

/-- Settles O53: the word's row has no operand, and the operation is one transition. -/
theorem gestResetReturnsToIdle : Obligations.GestResetReturnsToIdle :=
  ⟨decode_gestReset_word, fun s => by rw [exec_gestReset, transition]⟩

/-- Settles O54: the word is the encoder's, and the registers have room for the bytes. -/
theorem gestCfgWritesParameters : Obligations.GestCfgWritesParameters := by
  refine ⟨decode_gestCfg_word, fun xLen tol s hwidth => ?_⟩
  rw [exec_gestCfg, writeParams, thresholdOf_eq_toNat hwidth, thresholdOf_eq_toNat hwidth]

end Sys2Proof.Safety
end

section
/-! PROOFS. Subscription and the interrupt notification (44_dispatch.md): the words of NOP, SUB and
UNSUB, the bits of `SUB`, the two halves of IRQ, the records each half emits and the port reads it
makes. -/

namespace Sys2Proof.Safety

open Sys2Proof.Machine

section Dispatch

variable {p : Config.Params} {s t u : State} {m m' : Byte}

/-! ## The words of NOP, SUB, UNSUB and IRQ -/

theorem decode_nop_word : decode 0x00000000#32 = .ok .nop :=
  decode_encode_eq_operandsOf Laws.EncodesItsRow.nop

theorem decode_encode_sub (ch : Channel) : decode (encode (.sub ch)) = .ok (.sub ch) := by
  rw [decode_encode_eq_operandsOf (Laws.EncodesItsRow.sub ch)]
  cases ch <;> rfl

theorem decode_encode_unsub (ch : Channel) : decode (encode (.unsub ch)) = .ok (.unsub ch) := by
  rw [decode_encode_eq_operandsOf (Laws.EncodesItsRow.unsub ch)]
  cases ch <;> rfl

theorem encode_irq (m : Byte) : encode (.irq m) = 0x03000000#32 ||| m.setWidth 32 := rfl

theorem decode_irq_word (m : Byte) : decode (0x03000000#32 ||| m.setWidth 32) = .ok (.irq m) := by
  rw [← encode_irq, decode_encode_eq_operandsOf (Laws.EncodesItsRow.irq m)]
  exact congrArg (fun b => Except.ok (Instr.irq b)) (byteOperand_formatB 0x03#8 m)

/-- Opcode 0x00 has one row, whose mask takes in every bit (R102). -/
theorem row_of_opcode_zero :
    ∀ r ∈ rows, opcodeOf r.pattern = 0x00#8 → r.pattern = 0#32 ∧ r.mask = BitVec.allOnes 32 := by
  decide

theorem eq_zero_of_selects {r : Row} {w : Word} (hr : r ∈ rows) (hop : opcodeOf w = 0x00#8)
    (h : r.selects w = true) : w = 0#32 := by
  obtain ⟨hrow, -⟩ := (selects_iff hr).mp h
  have hpatop : opcodeOf r.pattern = 0x00#8 := ((opcodeOf_eq_iff _).mpr hrow).symm.trans hop
  obtain ⟨hpat, hmask⟩ := row_of_opcode_zero r hr hpatop
  have hw : w &&& r.mask = r.pattern := by simpa [Row.selects] using h
  rwa [hpat, hmask, BitVec.and_allOnes] at hw

/-! ## The bits of `SUB` -/

theorem exec_sub (ch : Channel) (s : State) : exec (.sub ch) s = .next (setSub ch s) := rfl

theorem exec_unsub (ch : Channel) (s : State) : exec (.unsub ch) s = .next (clearSub ch s) := rfl

theorem setSub_setSub (ch : Channel) (s : State) : setSub ch (setSub ch s) = setSub ch s := by
  simp only [setSub, BitVec.or_assoc, BitVec.or_self]

theorem clearSub_clearSub (ch : Channel) (s : State) :
    clearSub ch (clearSub ch s) = clearSub ch s := by
  simp only [clearSub, BitVec.and_assoc, BitVec.and_self]

/-- A channel's bit is no other channel's (R33). -/
theorem getLsbD_channelBit_of_ne {c ch : Channel} (h : c ≠ ch) :
    (1#2 <<< channelBit ch).getLsbD (channelBit c) = false :=
  match c, ch, h with
  | .kbd, .mouse, _ => rfl
  | .mouse, .kbd, _ => rfl
  | .kbd, .kbd, h => absurd rfl h
  | .mouse, .mouse, h => absurd rfl h

theorem subscribed_setSub_of_ne {c ch : Channel} (h : c ≠ ch) (s : State) :
    subscribed c (setSub ch s) = subscribed c s := by
  simp [subscribed, getLsbD_channelBit_of_ne h]

theorem subscribed_clearSub_of_ne {c ch : Channel} (h : c ≠ ch) (s : State) :
    subscribed c (clearSub ch s) = subscribed c s := by
  have hbit : channelBit c < 2 := by cases c <;> decide
  rw [subscribed, clearSub_sub, BitVec.getLsbD_and, BitVec.getLsbD_not,
    getLsbD_channelBit_of_ne h]
  simp [subscribed, hbit]

/-! ## What the keyboard half leaves to the mouse half -/

theorem drain_sub (p : Config.Params) (ch : Channel) (s : State) :
    (drain p ch s).2.sub = s.sub := by
  rcases drain_state_cases p ch s with ⟨k, d, heq⟩ | heq <;> rw [heq]
  · cases ch <;> rfl
  · rfl

theorem kbdReassemble_sub (p : Config.Params) (b : Byte) (s : State) :
    (kbdReassemble p b s).sub = s.sub := by
  rcases kbdReassemble_cases p b s with ⟨-, heq⟩ | ⟨-, -, heq⟩ | ⟨-, -, heq⟩ <;> rw [heq] <;> rfl

theorem kbdHandler_sub (p : Config.Params) (s : State) : (kbdHandler p s).sub = s.sub := by
  rcases kbdHandler_cases p s with ⟨kind, heq⟩ | ⟨d, heq⟩
  · rw [heq, emit_sub, drain_sub]
  · rw [heq, kbdReassemble_sub, drain_sub]

/-! ## The two halves of IRQ -/

theorem exec_irq (m : Byte) (s : State) : exec (.irq m) s = .next (irqDispatch s.config m s) := rfl

theorem irqKbd_eq_ite (p : Config.Params) (m : Byte) (s : State) :
    irqKbd p m s =
      if m.getLsbD p.irqBitKbd = true ∧ s.sub.getLsbD 0 = true then kbdHandler p s else s := by
  simp [irqKbd, subscribed, channelBit]

theorem irqMouse_eq_ite (p : Config.Params) (m : Byte) (s : State) :
    irqMouse p m s =
      if m.getLsbD p.irqBitMouse = true ∧ s.sub.getLsbD 1 = true then mouseHandler p s else s := by
  simp [irqMouse, subscribed, channelBit]

theorem irqKbd_cases (p : Config.Params) (m : Byte) (s : State) :
    irqKbd p m s = kbdHandler p s ∨ irqKbd p m s = s := by
  rw [irqKbd_eq_ite]
  exact ite_eq_or_eq _ _ _

theorem irqMouse_cases (p : Config.Params) (m : Byte) (s : State) :
    irqMouse p m s = mouseHandler p s ∨ irqMouse p m s = s := by
  rw [irqMouse_eq_ite]
  exact ite_eq_or_eq _ _ _

theorem irqKbd_sub (p : Config.Params) (m : Byte) (s : State) : (irqKbd p m s).sub = s.sub := by
  rcases irqKbd_cases p m s with heq | heq <;> rw [heq]
  exact kbdHandler_sub p s

/-- After the keyboard half, MOUSE_INT is the mouse handler with the parameters of before. -/
theorem exec_mouseInt_irqKbd (p : Config.Params) (m : Byte) (s : State) (hp : s.config = p) :
    exec .mouseInt (irqKbd p m s) = .next (mouseHandler p (irqKbd p m s)) := by
  rw [exec_mouseInt, irqKbd_config, hp]

/-- The keyboard half reads its own bit of the mask, and that only while it is subscribed (R268). -/
theorem irqKbd_congr
    (h : s.sub.getLsbD 0 = true → m'.getLsbD p.irqBitKbd = m.getLsbD p.irqBitKbd) :
    irqKbd p m' s = irqKbd p m s := by
  rw [irqKbd_eq_ite, irqKbd_eq_ite]
  by_cases hsub : s.sub.getLsbD 0 = true
  · rw [h hsub]
  · rw [if_neg fun hrun => hsub hrun.2, if_neg fun hrun => hsub hrun.2]

/-- The mouse half reads its own bit of the mask, and that only while it is subscribed (R268). -/
theorem irqMouse_congr
    (h : s.sub.getLsbD 1 = true → m'.getLsbD p.irqBitMouse = m.getLsbD p.irqBitMouse) :
    irqMouse p m' s = irqMouse p m s := by
  rw [irqMouse_eq_ite, irqMouse_eq_ite]
  by_cases hsub : s.sub.getLsbD 1 = true
  · rw [h hsub]
  · rw [if_neg fun hrun => hsub hrun.2, if_neg fun hrun => hsub hrun.2]

theorem exec_irq_congr
    (hkbd : s.sub.getLsbD 0 = true → m'.getLsbD s.config.irqBitKbd = m.getLsbD s.config.irqBitKbd)
    (hmouse : s.sub.getLsbD 1 = true →
      m'.getLsbD s.config.irqBitMouse = m.getLsbD s.config.irqBitMouse) :
    exec (.irq m') s = exec (.irq m) s := by
  rw [exec_irq, exec_irq, irqDispatch, irqDispatch, irqKbd_congr hkbd,
    irqMouse_congr (by rwa [irqKbd_sub])]

/-- Neither half runs when each fired bit is that of an unsubscribed channel (R268). -/
theorem exec_irq_of_unsubscribed
    (hkbd : m.getLsbD s.config.irqBitKbd = true → s.sub.getLsbD 0 = false)
    (hmouse : m.getLsbD s.config.irqBitMouse = true → s.sub.getLsbD 1 = false) :
    exec (.irq m) s = .next s := by
  have hk : irqKbd s.config m s = s := by
    rw [irqKbd_eq_ite]
    exact if_neg fun ⟨hbit, hsub⟩ => Bool.false_ne_true ((hkbd hbit).symm.trans hsub)
  have hm : irqMouse s.config m s = s := by
    rw [irqMouse_eq_ite]
    exact if_neg fun ⟨hbit, hsub⟩ => Bool.false_ne_true ((hmouse hbit).symm.trans hsub)
  rw [exec_irq, irqDispatch, hk, hm]

/-- Masking a byte with a word that has bit `i` keeps its bit `i`, if the byte has such a bit. -/
theorem getLsbD_and_of_bit (m : Byte) {mask : Byte} {i : Nat} (h : i < 8 → mask.getLsbD i = true) :
    (m &&& mask).getLsbD i = m.getLsbD i := by
  by_cases hi : i < 8
  · simp [h hi]
  · simp [BitVec.getLsbD_of_ge m i (by omega)]

/-! ## The records of each half -/

/-- From `s` to `t` at most `n` records are emitted, each of the given kind. -/
def EmitsAtMost (kind : Record → Bool) (n : Nat) (s t : State) : Prop :=
  ∃ rs : List Record,
    t.out = s.out ++ rs.map Record.word ∧ (∀ r ∈ rs, kind r = true) ∧ rs.length ≤ n

section Records

variable {kind : Record → Bool} {n : Nat}

theorem emitsAtMost_of_out_eq (h : t.out = s.out) : EmitsAtMost kind n s t :=
  ⟨[], by simp [h], nofun, Nat.zero_le n⟩

theorem emitsAtMost_of_out_append {r : Record} (hout : t.out = s.out ++ [r.word])
    (hr : kind r = true) (hn : 1 ≤ n) : EmitsAtMost kind n s t :=
  ⟨[r], hout, by simpa using hr, hn⟩

theorem EmitsAtMost.of_start_out_eq (h : EmitsAtMost kind n u t) (hout : u.out = s.out) :
    EmitsAtMost kind n s t := by
  unfold EmitsAtMost at h ⊢
  rwa [hout] at h

end Records

theorem drain_out (p : Config.Params) (ch : Channel) (s : State) :
    (drain p ch s).2.out = s.out := by
  obtain ⟨-, -, hout⟩ := drain_frame (p := p) (ch := ch) (s := s) rfl
  exact hout

theorem kbdReassemble_emits (p : Config.Params) (b : Byte) (s : State) :
    EmitsAtMost isKbdRecord 1 s (kbdReassemble p b s) := by
  rcases kbdReassemble_cases p b s with ⟨-, heq⟩ | ⟨-, -, heq⟩ | ⟨-, -, heq⟩ <;> rw [heq]
  · exact emitsAtMost_of_out_eq rfl
  · exact emitsAtMost_of_out_append rfl rfl le_rfl
  · exact emitsAtMost_of_out_append rfl rfl le_rfl

theorem kbdHandler_emits (p : Config.Params) (s : State) :
    EmitsAtMost isKbdRecord 1 s (kbdHandler p s) := by
  refine .of_start_out_eq ?_ (drain_out p .kbd s)
  rcases kbdHandler_cases p s with ⟨kind, heq⟩ | ⟨d, heq⟩ <;> rw [heq]
  · exact emitsAtMost_of_out_append rfl rfl le_rfl
  · exact kbdReassemble_emits p d _

theorem packetComplete_emits (p : Config.Params) (s : State) :
    EmitsAtMost isMouseRecord 2 s (packetComplete p s) := by
  rcases packetComplete_out p s with hout | hout
  · exact emitsAtMost_of_out_append hout rfl (by decide)
  · exact ⟨[.packet s.mouseB0 s.mouseB1 s.mouseB2, .gestureDone], by simpa using hout,
      List.forall_mem_cons.mpr ⟨rfl, List.forall_mem_singleton.mpr rfl⟩, le_rfl⟩

theorem mouseReassemble_emits (p : Config.Params) (b : Byte) (s : State) :
    EmitsAtMost isMouseRecord 2 s (mouseReassemble p b s) := by
  rcases mouseReassemble_cases p b s with
    ⟨-, -, heq⟩ | ⟨-, -, heq⟩ | ⟨-, heq⟩ | ⟨-, heq⟩ <;> rw [heq]
  · exact emitsAtMost_of_out_append rfl rfl (by decide)
  · exact emitsAtMost_of_out_eq rfl
  · exact emitsAtMost_of_out_eq rfl
  · exact (packetComplete_emits p (captureByte2 p b s)).of_start_out_eq rfl

theorem mouseHandler_emits (p : Config.Params) (s : State) :
    EmitsAtMost isMouseRecord 2 s (mouseHandler p s) := by
  refine .of_start_out_eq ?_ (drain_out p .mouse s)
  rcases mouseHandler_cases p s with ⟨kind, heq⟩ | ⟨d, heq⟩ <;> rw [heq]
  · exact emitsAtMost_of_out_append rfl rfl (by decide)
  · exact mouseReassemble_emits p d _

/-! ## The port reads of each half -/

/-- From `s` to `t` the status port is read at most `POLL_BUDGET` times, then the data port at most
once, and the environment's answers to these reads are used up. -/
def ReadsAtMostOneByte (p : Config.Params) (s t : State) : Prop :=
  ∃ k d : Nat, k ≤ p.pollBudget ∧ d ≤ 1 ∧
    t.portReads = s.portReads ++ List.replicate k p.statusPort ++ List.replicate d p.dataPort ∧
    t.statusIn = s.statusIn.drop k ∧ t.dataIn = s.dataIn.drop d

theorem ReadsAtMostOneByte.refl (p : Config.Params) (s : State) : ReadsAtMostOneByte p s s :=
  ⟨0, 0, Nat.zero_le _, by decide, by simp, rfl, rfl⟩

theorem ReadsAtMostOneByte.trans_same (h : ReadsAtMostOneByte p s t) (hports : samePorts t u) :
    ReadsAtMostOneByte p s u := by
  obtain ⟨hstatus, hdata, hreads⟩ := hports
  unfold ReadsAtMostOneByte at h ⊢
  rwa [hstatus, hdata, hreads]

theorem drain_reads (p : Config.Params) (ch : Channel) (s : State) :
    ReadsAtMostOneByte p s (drain p ch s).2 := by
  rcases firstFull_or_neverFull p s with ⟨k, hfull⟩ | hnever
  · rw [drain_of_firstFull ch hfull]
    refine ⟨k + 1, 1, hfull.1, le_rfl, ?_⟩
    cases ch <;> exact ⟨rfl, rfl, rfl⟩
  · rw [drain_of_neverFull ch hnever]
    exact ⟨p.pollBudget, 0, le_rfl, by decide, (List.append_nil _).symm, rfl, rfl⟩

theorem samePorts_kbdReassemble (p : Config.Params) (b : Byte) (s : State) :
    samePorts s (kbdReassemble p b s) := by
  rcases kbdReassemble_cases p b s with ⟨-, heq⟩ | ⟨-, -, heq⟩ | ⟨-, -, heq⟩ <;> rw [heq] <;>
    exact ⟨rfl, rfl, rfl⟩

theorem samePorts_gestureStep (p : Config.Params) (btn : Buttons) (dx dy : Int) (s : State) :
    samePorts s (gestureStep p btn dx dy s) := by
  rcases gestureStep_cases p btn dx dy s with
    ⟨heq, -⟩ | ⟨g, -, -, heq⟩ | ⟨-, heq⟩ | ⟨-, heq⟩ | ⟨-, heq⟩ <;> rw [heq] <;>
    exact ⟨rfl, rfl, rfl⟩

theorem samePorts_mouseReassemble (p : Config.Params) (b : Byte) (s : State) :
    samePorts s (mouseReassemble p b s) := by
  rcases mouseReassemble_cases p b s with
    ⟨-, -, heq⟩ | ⟨-, -, heq⟩ | ⟨-, heq⟩ | ⟨-, heq⟩ <;> rw [heq]
  case inr.inr.inr => exact samePorts_gestureStep p _ _ _ _
  all_goals exact ⟨rfl, rfl, rfl⟩

theorem kbdHandler_reads (p : Config.Params) (s : State) :
    ReadsAtMostOneByte p s (kbdHandler p s) := by
  rcases kbdHandler_cases p s with ⟨kind, heq⟩ | ⟨d, heq⟩ <;> rw [heq]
  · exact (drain_reads p .kbd s).trans_same ⟨rfl, rfl, rfl⟩
  · exact (drain_reads p .kbd s).trans_same (samePorts_kbdReassemble p d _)

theorem mouseHandler_reads (p : Config.Params) (s : State) :
    ReadsAtMostOneByte p s (mouseHandler p s) := by
  rcases mouseHandler_cases p s with ⟨kind, heq⟩ | ⟨d, heq⟩ <;> rw [heq]
  · exact (drain_reads p .mouse s).trans_same ⟨rfl, rfl, rfl⟩
  · exact (drain_reads p .mouse s).trans_same (samePorts_mouseReassemble p d _)

theorem irqKbd_reads (p : Config.Params) (m : Byte) (s : State) :
    ReadsAtMostOneByte p s (irqKbd p m s) := by
  rcases irqKbd_cases p m s with heq | heq <;> rw [heq]
  · exact kbdHandler_reads p s
  · exact .refl p s

theorem irqMouse_reads (p : Config.Params) (m : Byte) (s : State) :
    ReadsAtMostOneByte p s (irqMouse p m s) := by
  rcases irqMouse_cases p m s with heq | heq <;> rw [heq]
  · exact mouseHandler_reads p s
  · exact .refl p s

end Dispatch

/-! ## The statements -/

/-- Settles O20: the states after each half, the second half with the subscription and the
parameters that the first left standing. -/
theorem irqRunsSubscribedHandlers : Obligations.IrqRunsSubscribedHandlers := by
  refine ⟨decode_irq_word, fun m s => ?_⟩
  refine ⟨irqKbd s.config m s, irqMouse s.config m (irqKbd s.config m s), ?_, ?_, exec_irq m s⟩
  · split
    case isTrue hrun => rw [irqKbd_eq_ite, if_pos hrun, exec_kbdInt]
    case isFalse hskip => rw [irqKbd_eq_ite, if_neg hskip]
  · rw [← irqKbd_sub s.config m s]
    split
    case isTrue hrun => rw [irqMouse_eq_ite, if_pos hrun, exec_mouseInt_irqKbd _ m s rfl]
    case isFalse hskip => rw [irqMouse_eq_ite, if_neg hskip]

/-- Settles O21: both halves run, and the handlers' records are their channels' own. -/
theorem irqKeyboardRecordsFirst : Obligations.IrqKeyboardRecordsFirst := by
  intro m s hkbd hmouse hsub
  have hk : irqKbd s.config m s = kbdHandler s.config s := by
    rw [irqKbd_eq_ite, if_pos ⟨hkbd, by rw [hsub]; rfl⟩]
  have hm : irqMouse s.config m (irqKbd s.config m s) =
      mouseHandler s.config (irqKbd s.config m s) := by
    rw [irqMouse_eq_ite, if_pos ⟨hmouse, by rw [irqKbd_sub, hsub]; rfl⟩]
  obtain ⟨ks, hkout, hkall, hklen⟩ := kbdHandler_emits s.config s
  rw [← hk] at hkout
  obtain ⟨ms, hmout, hmall, hmlen⟩ := mouseHandler_emits s.config (irqKbd s.config m s)
  exact ⟨irqKbd s.config m s, mouseHandler s.config (irqKbd s.config m s), ks, ms,
    by rw [exec_kbdInt, hk], exec_mouseInt_irqKbd s.config m s rfl,
    by rw [exec_irq, irqDispatch, hm], hkout, hmout, hkall, hmall, hklen, hmlen⟩

/-- Settles O22: each half reads one bit of the mask, and that only while its channel is
subscribed. -/
theorem irqIgnoresOtherBits : Obligations.IrqIgnoresOtherBits := by
  refine ⟨fun m s hkbd hmouse => exec_irq_of_unsubscribed hkbd hmouse,
    fun m m' s hkbd hmouse => exec_irq_congr hkbd hmouse, fun m s => ?_,
    fun s => exec_irq_of_unsubscribed (by simp) (by simp)⟩
  refine exec_irq_congr (fun _ => (getLsbD_and_of_bit m fun hi => ?_).symm)
    (fun _ => (getLsbD_and_of_bit m fun hi => ?_).symm)
  · simp [hi]
  · simp [hi]

/-- Settles O23: each half is a handler, which reads what one drain reads, or reads nothing. -/
theorem oneDataByteForEachHandler : Obligations.OneDataByteForEachHandler := by
  intro m s
  obtain ⟨ks, kd, hks, hkd, hkreads, hkstatus, hkdata⟩ := irqKbd_reads s.config m s
  obtain ⟨ms, md, hms, hmd, hmreads, hmstatus, hmdata⟩ :=
    irqMouse_reads s.config m (irqKbd s.config m s)
  have hkbd := (irqKbd_cases s.config m s).imp_left fun heq =>
    (exec_kbdInt s).trans (congrArg Host.Outcome.next heq.symm)
  have hmouse := (irqMouse_cases s.config m (irqKbd s.config m s)).imp_left fun heq =>
    (exec_mouseInt_irqKbd s.config m s rfl).trans (congrArg Host.Outcome.next heq.symm)
  exact ⟨_, _, ks, kd, ms, md, hkbd, hmouse, exec_irq m s, hks, hkd, hms, hmd,
    hkreads, hkstatus, hkdata, hmreads, hmstatus, hmdata⟩

/-- Settles O15: a row with opcode 0x00 selects the zero word only. -/
theorem nopHasNoEffect : Obligations.NopHasNoEffect := by
  refine ⟨decode_nop_word, fun s => rfl, fun w hop hne => decode_error_of_no_row fun r hr => ?_⟩
  exact Bool.eq_false_iff.mpr fun hsel => hne (eq_zero_of_selects hr hop hsel)

/-- Settles O16: the words are the encoder's, and `SUB` gets the channel's bit. -/
theorem subSetsItsBit : Obligations.SubSetsItsBit :=
  ⟨decode_encode_sub .kbd, decode_encode_sub .mouse, exec_sub .kbd, exec_sub .mouse⟩

/-- Settles O17: the words are the encoder's, and `SUB` loses the channel's bit. -/
theorem unsubClearsItsBit : Obligations.UnsubClearsItsBit :=
  ⟨decode_encode_unsub .kbd, decode_encode_unsub .mouse, exec_unsub .kbd, exec_unsub .mouse⟩

/-- Settles O18: a bit set or cleared twice is set or cleared once, and it is no other channel's. -/
theorem subscriptionIsIdempotent : Obligations.SubscriptionIsIdempotent := by
  intro ch s
  refine ⟨⟨(setSub ch s).sub, exec_sub ch s, ?_, fun c hc => subscribed_setSub_of_ne hc s⟩,
    ⟨(clearSub ch s).sub, exec_unsub ch s, ?_, fun c hc => subscribed_clearSub_of_ne hc s⟩,
    ⟨(setSub ch (clearSub ch s)).sub, ?_⟩⟩
  · exact congrArg Host.Outcome.next (setSub_setSub ch s)
  · exact congrArg Host.Outcome.next (clearSub_clearSub ch s)
  · exact (execAll_cons (exec_unsub ch s)).trans (execAll_cons (exec_sub ch (clearSub ch s)))

end Sys2Proof.Safety
end

section
/-! PROOFS. Reset and hazards (70_reset_and_hazards.md): the values after reset, and how many ports
each operation reads before it finishes. -/

namespace Sys2Proof.Safety

open Sys2Proof.Machine

section Finishing

variable {p : Config.Params} {n n' : Nat} {s t u : State}

/-! ## A bound on the port reads -/

/-- From `s` to `t` at most `n` ports are read. -/
def PortReadsWithin (n : Nat) (s t : State) : Prop :=
  ∃ reads, t.portReads = s.portReads ++ reads ∧ reads.length ≤ n

theorem portReadsWithin_of_samePorts (h : samePorts s t) : PortReadsWithin n s t := by
  obtain ⟨-, -, hreads⟩ := h
  exact ⟨[], hreads.trans (List.append_nil _).symm, Nat.zero_le n⟩

theorem PortReadsWithin.trans (hsu : PortReadsWithin n s u) (hut : PortReadsWithin n' u t) :
    PortReadsWithin (n + n') s t := by
  obtain ⟨rs, hu, hlen⟩ := hsu
  obtain ⟨rs', ht, hlen'⟩ := hut
  refine ⟨rs ++ rs', by rw [ht, hu, List.append_assoc], ?_⟩
  rw [List.length_append]
  exact Nat.add_le_add hlen hlen'

/-- The reads of one drain: its `POLL_BUDGET` samples and one data byte (R130, R336). -/
theorem ReadsAtMostOneByte.portReadsWithin (h : ReadsAtMostOneByte p s t) :
    PortReadsWithin (p.pollBudget + 1) s t := by
  obtain ⟨k, d, hk, hd, hreads, -, -⟩ := h
  refine ⟨_, hreads.trans (List.append_assoc _ _ _), ?_⟩
  rw [List.length_append, List.length_replicate, List.length_replicate]
  exact Nat.add_le_add hk hd

theorem irqDispatch_portReadsWithin (p : Config.Params) (m : Byte) (s : State) :
    PortReadsWithin (2 * (p.pollBudget + 1)) s (irqDispatch p m s) := by
  rw [Nat.two_mul]
  exact (irqKbd_reads p m s).portReadsWithin.trans (irqMouse_reads p m _).portReadsWithin

/-! ## The instructions and the step -/

/-- Every operation answers a next state; only the drains in it read ports. -/
theorem exec_portReadsWithin (i : Instr) (s : State) :
    ∃ t, exec i s = .next t ∧ PortReadsWithin (portReadBound s.config i) s t := by
  cases i with
  | nop => exact ⟨_, rfl, portReadsWithin_of_samePorts ⟨rfl, rfl, rfl⟩⟩
  | sub ch => exact ⟨_, exec_sub ch s, portReadsWithin_of_samePorts ⟨rfl, rfl, rfl⟩⟩
  | unsub ch => exact ⟨_, exec_unsub ch s, portReadsWithin_of_samePorts ⟨rfl, rfl, rfl⟩⟩
  | irq m => exact ⟨_, exec_irq m s, irqDispatch_portReadsWithin s.config m s⟩
  | kbdInt => exact ⟨_, exec_kbdInt s, (kbdHandler_reads s.config s).portReadsWithin⟩
  | kbdReasm b =>
    exact ⟨_, exec_kbdReasm b s,
      portReadsWithin_of_samePorts (samePorts_kbdReassemble s.config b s)⟩
  | mouseInt => exact ⟨_, exec_mouseInt s, (mouseHandler_reads s.config s).portReadsWithin⟩
  | mouseReasm b =>
    exact ⟨_, exec_mouseReasm b s,
      portReadsWithin_of_samePorts (samePorts_mouseReassemble s.config b s)⟩
  | gestStep lb rb mb dx dy =>
    exact ⟨_, exec_gestStep lb rb mb dx dy s,
      portReadsWithin_of_samePorts (samePorts_gestureStep s.config _ dx dy s)⟩
  | gestReset => exact ⟨_, exec_gestReset s, portReadsWithin_of_samePorts ⟨rfl, rfl, rfl⟩⟩
  | gestCfg xLen tol =>
    exact ⟨_, exec_gestCfg xLen tol s, portReadsWithin_of_samePorts ⟨rfl, rfl, rfl⟩⟩

theorem step_answers_next (s : State) : ∃ t, step s = .next t := by
  cases hin : s.inputs with
  | nil => exact ⟨s, step_of_no_input hin⟩
  | cons input rest =>
    cases input with
    | reset => exact ⟨_, step_of_reset hin⟩
    | word v =>
      cases hdec : decodeCommand s.config v with
      | ok i =>
        obtain ⟨t, hexec, -⟩ := exec_portReadsWithin i { s with inputs := rest }
        exact ⟨t, (step_of_legal_word hin hdec).trans hexec⟩
      | error reason => exact ⟨_, step_of_illegal_word hin hdec⟩

end Finishing

/-! ## The statements -/

/-- Settles O13: an operation reads what its drains read, and a step is a wait, a reset, an
operation or one DISCARD record. -/
theorem everyOperationFinishes : Obligations.EveryOperationFinishes := by
  refine ⟨fun i s => ?_, fun p ch s => (drain_reads p ch s).portReadsWithin, step_answers_next⟩
  obtain ⟨t, hexec, reads, hreads, hlen⟩ := exec_portReadsWithin i s
  exact ⟨t, reads, hexec, hreads, hlen⟩

/-- Settles O11: each value is the one written down in `State.reset`. -/
theorem resetRegisters : Obligations.ResetRegisters := by
  unfold Obligations.ResetRegisters
  decide

end Sys2Proof.Safety
end

section
/-! PROOFS. The encoder against the decoder (R97 to R106): an operation's word decodes to it, and a
legal word is the word of the operation it decodes to. -/

namespace Sys2Proof.Safety

open Sys2Proof.Machine

section Codec

variable {r r' : Row} {w w' : Word} {p : Config.Params} {i : Instr}

/-! ## The operands of an operation's own word -/

theorem encodesItsRow (i : Instr) : Laws.EncodesItsRow.Statement i := by
  cases i with
  | nop => exact Laws.EncodesItsRow.nop
  | sub ch => exact Laws.EncodesItsRow.sub ch
  | unsub ch => exact Laws.EncodesItsRow.unsub ch
  | irq m => exact Laws.EncodesItsRow.irq m
  | kbdInt => exact Laws.EncodesItsRow.kbdInt
  | kbdReasm b => exact Laws.EncodesItsRow.kbdReasm b
  | mouseInt => exact Laws.EncodesItsRow.mouseInt
  | mouseReasm b => exact Laws.EncodesItsRow.mouseReasm b
  | gestStep lb rb mb dx dy => exact Laws.EncodesItsRow.gestStep lb rb mb dx dy
  | gestReset => exact Laws.EncodesItsRow.gestReset
  | gestCfg xLen tol => exact Laws.EncodesItsRow.gestCfg xLen tol

theorem channelOf_formatC (opcode : Byte) (ch : Channel) :
    channelOf ((formatC opcode ch).getLsbD 0) = ch := by
  have hop : (formatZ opcode).getLsbD 0 = false := getLsbD_formatZ opcode (by decide)
  cases ch <;> simp only [channelOf, formatC, BitVec.getLsbD_or, hop] <;> rfl

/-- The bits of format P's word below the opcode (R100). -/
theorem getLsbD_formatP (opcode : Byte) (lb rb mb : Bool) (dx dy : DeltaField) {i : Nat}
    (hi : i < 24) :
    (formatP opcode lb rb mb dx dy).getLsbD i =
      if i = 0 then lb else if i = 1 then rb else if i = 2 then mb
      else if i < 6 then false
      else if i < 15 then dx.getLsbD (i - 6) else dy.getLsbD (i - 15) := by
  simp only [formatP, BitVec.getLsbD_or, getLsbD_formatZ opcode (show i < 32 by omega),
    BitVec.getLsbD_shiftLeft, BitVec.getLsbD_setWidth]
  interval_cases i <;> simp

theorem getLsbD_formatP_buttons (opcode : Byte) (lb rb mb : Bool) (dx dy : DeltaField) :
    (formatP opcode lb rb mb dx dy).getLsbD 0 = lb ∧
      (formatP opcode lb rb mb dx dy).getLsbD 1 = rb ∧
      (formatP opcode lb rb mb dx dy).getLsbD 2 = mb :=
  ⟨getLsbD_formatP opcode lb rb mb dx dy (by decide),
    getLsbD_formatP opcode lb rb mb dx dy (by decide),
    getLsbD_formatP opcode lb rb mb dx dy (by decide)⟩

theorem extractLsb'_formatP_dx (opcode : Byte) (lb rb mb : Bool) (dx dy : DeltaField) :
    (formatP opcode lb rb mb dx dy).extractLsb' 6 9 = dx := by
  refine BitVec.eq_of_getLsbD_eq fun j hj => ?_
  rw [BitVec.getLsbD_extractLsb', getLsbD_formatP _ _ _ _ _ _ (by omega)]
  simp [hj, show 6 + j ≠ 1 by omega, show 6 + j ≠ 2 by omega, show 6 + j < 15 by omega]

theorem extractLsb'_formatP_dy (opcode : Byte) (lb rb mb : Bool) (dx dy : DeltaField) :
    (formatP opcode lb rb mb dx dy).extractLsb' 15 9 = dy := by
  refine BitVec.eq_of_getLsbD_eq fun j hj => ?_
  rw [BitVec.getLsbD_extractLsb', getLsbD_formatP _ _ _ _ _ _ (by omega)]
  simp [hj, show 15 + j ≠ 1 by omega, show 15 + j ≠ 2 by omega, show ¬ 15 + j < 6 by omega]

theorem inDeltaRange_iff_fitsSigned (d : Int) : inDeltaRange d = true ↔ fitsSigned 9 d := by
  simp only [inDeltaRange, fitsSigned, Bool.and_eq_true, decide_eq_true_eq]
  omega

/-- The 9-bit field holds a delta of R103's range as it is. -/
theorem toInt_ofInt_of_inDeltaRange {d : Int} (h : inDeltaRange d = true) :
    (BitVec.ofInt 9 d : DeltaField).toInt = d :=
  (BitVec.toInt_ofInt d).trans (wrapTo_of_fits ((inDeltaRange_iff_fitsSigned d).mp h))

/-- The formats' fields, read from the word they were laid out in, are the operands. -/
theorem operandsOf_encode (hwf : i.wellFormed = true) :
    operandsOf (Laws.opOf i) (encode i) = i := by
  cases i with
  | sub ch => exact congrArg Instr.sub (channelOf_formatC 0x01#8 ch)
  | unsub ch => exact congrArg Instr.unsub (channelOf_formatC 0x02#8 ch)
  | irq m => exact congrArg Instr.irq (byteOperand_formatB 0x03#8 m)
  | kbdReasm b => exact congrArg Instr.kbdReasm (byteOperand_formatB 0x11#8 b)
  | mouseReasm b => exact congrArg Instr.mouseReasm (byteOperand_formatB 0x21#8 b)
  | gestStep lb rb mb dx dy =>
    obtain ⟨hdx, hdy⟩ : inDeltaRange dx = true ∧ inDeltaRange dy = true := by
      simpa [Instr.wellFormed] using hwf
    obtain ⟨hlb, hrb, hmb⟩ :=
      getLsbD_formatP_buttons 0x30#8 lb rb mb (BitVec.ofInt 9 dx) (BitVec.ofInt 9 dy)
    simp only [operandsOf, Laws.opOf, encode, hlb, hrb, hmb, dxOperand, dyOperand,
      extractLsb'_formatP_dx, extractLsb'_formatP_dy, toInt_ofInt_of_inDeltaRange hdx,
      toInt_ofInt_of_inDeltaRange hdy]
  | gestCfg xLen tol =>
    exact congrArg₂ Instr.gestCfg (extractLsb'_formatG_xLen 0x32#8 xLen tol)
      (extractLsb'_formatG_tol 0x32#8 xLen tol)
  | nop => rfl
  | kbdInt => rfl
  | mouseInt => rfl
  | gestReset => rfl

theorem decode_encode (hwf : i.wellFormed = true) : decode (encode i) = .ok i := by
  rw [decode_encode_eq_operandsOf (encodesItsRow i), operandsOf_encode hwf]

theorem decode_of_encode_eq (h : encode i = w) (hwf : i.wellFormed = true) :
    decode w = .ok i := by
  rw [← h, decode_encode hwf]

/-! ## The command port -/

/-- A command port that loses no bit of a 32-bit word decodes it (log 9). -/
theorem decodeCommand_toNat (hp : 32 ≤ p.opWidth) (w : Word) :
    decodeCommand p w.toNat = decode w := by
  have hlow : w.toNat % 2 ^ p.opWidth = w.toNat :=
    Nat.mod_eq_of_lt (lt_of_lt_of_le w.isLt (Nat.pow_le_pow_right (by decide) hp))
  rw [decodeCommand, hlow, if_pos w.isLt, BitVec.ofNat_toNat, BitVec.setWidth_eq]

/-- What the command port decodes fits 32 bits, and is decoded as the word of those (log 9). -/
theorem decode_of_decodeCommand {v : Nat} (h : decodeCommand p v = .ok i) :
    v % 2 ^ p.opWidth < 2 ^ 32 ∧ decode (BitVec.ofNat 32 (v % 2 ^ p.opWidth)) = .ok i := by
  rw [decodeCommand] at h
  split at h
  case isTrue hlt => exact ⟨hlt, h⟩
  case isFalse => exact absurd h nofun

/-! ## A row and its operands determine the word -/

theorem selects_of_decode (h : decode w = .ok i) :
    ∃ r ∈ rows, r.selects w = true ∧ i = operandsOf r.op w := by
  by_cases hsel : ∃ r ∈ rows, r.selects w = true
  · obtain ⟨r, hr, hsel⟩ := hsel
    exact ⟨r, hr, hsel, Except.ok.inj (h.symm.trans (decode_of_selects hr hsel))⟩
  · obtain ⟨reason, herr⟩ := decode_error_of_no_row (w := w) (by simpa using hsel)
    exact absurd (h.symm.trans herr) nofun

theorem opOf_operandsOf (op : Op) (w : Word) : Laws.opOf (operandsOf op w) = op := by
  cases op <;> rfl

theorem rows_eq_of_op_eq : ∀ r ∈ rows, ∀ r' ∈ rows, r.op = r'.op → r = r' := by
  decide

theorem toInt_mem_deltaRange (d : DeltaField) : inDeltaRange d.toInt = true :=
  (inDeltaRange_iff_fitsSigned _).mpr ⟨BitVec.le_two_mul_toInt, BitVec.two_mul_toInt_lt⟩

/-- The fields of a word hold operands of R103's ranges. -/
theorem operandsOf_wellFormed (op : Op) (w : Word) : (operandsOf op w).wellFormed = true := by
  cases op with
  | gestStep =>
    exact Bool.and_eq_true_iff.mpr ⟨toInt_mem_deltaRange _, toInt_mem_deltaRange _⟩
  | _ => rfl

/-- The operand bits of each row's format (R97 to R101): the lowest bit and the width of each
field. -/
def operandFields : Op → List (Nat × Nat)
  | .nop | .kbdInt | .mouseInt | .gestReset => []
  | .sub | .unsub => [(0, 1)]
  | .irq | .kbdReasm | .mouseReasm => [(0, 8)]
  | .gestStep => [(0, 1), (1, 1), (2, 1), (6, 9), (15, 9)]
  | .gestCfg => [(0, 8), (8, 8)]

/-- Each bit of a row's format is fixed by the row or is a bit of an operand. -/
theorem mask_or_operandField : ∀ r ∈ rows, ∀ i < 32,
    r.mask.getLsbD i = true ∨ ∃ f ∈ operandFields r.op, f.1 ≤ i ∧ i < f.1 + f.2 := by
  decide

theorem getLsbD_eq_of_extractLsb'_eq {lo n i : Nat} (h : w.extractLsb' lo n = w'.extractLsb' lo n)
    (hlo : lo ≤ i) (hi : i < lo + n) : w.getLsbD i = w'.getLsbD i := by
  have hbit := congrArg (BitVec.getLsbD · (i - lo)) h
  simpa [show i - lo < n by omega, show lo + (i - lo) = i by omega] using hbit

theorem extractLsb'_one_eq_of_getLsbD_eq {i : Nat} (h : w.getLsbD i = w'.getLsbD i) :
    w.extractLsb' i 1 = w'.extractLsb' i 1 :=
  BitVec.eq_of_getLsbD_eq fun j hj => by
    obtain rfl : j = 0 := by omega
    simpa using h

theorem channelOf_injective : Function.Injective channelOf := by
  decide

/-- Words with the same operands have the same operand fields. -/
theorem operandFields_eq_of_operandsOf_eq (op : Op) (h : operandsOf op w = operandsOf op w') :
    ∀ f ∈ operandFields op, w.extractLsb' f.1 f.2 = w'.extractLsb' f.1 f.2 := by
  cases op with
  | nop | kbdInt | mouseInt | gestReset => nofun
  | sub =>
    have hbit := channelOf_injective (Instr.sub.inj h)
    simpa [operandFields] using extractLsb'_one_eq_of_getLsbD_eq hbit
  | unsub =>
    have hbit := channelOf_injective (Instr.unsub.inj h)
    simpa [operandFields] using extractLsb'_one_eq_of_getLsbD_eq hbit
  | irq => simpa [operandFields, byteOperand] using Instr.irq.inj h
  | kbdReasm => simpa [operandFields, byteOperand] using Instr.kbdReasm.inj h
  | mouseReasm => simpa [operandFields, byteOperand] using Instr.mouseReasm.inj h
  | gestStep =>
    obtain ⟨hlb, hrb, hmb, hdx, hdy⟩ := Instr.gestStep.inj h
    simpa [operandFields] using
      ⟨extractLsb'_one_eq_of_getLsbD_eq hlb, extractLsb'_one_eq_of_getLsbD_eq hrb,
        extractLsb'_one_eq_of_getLsbD_eq hmb, BitVec.toInt_inj.mp hdx, BitVec.toInt_inj.mp hdy⟩
  | gestCfg => simpa [operandFields] using Instr.gestCfg.inj h

/-- A row's format drops no bit: two words of one row with the same operands are the same word. -/
theorem eq_of_selects_of_operandsOf_eq (hr : r ∈ rows) (h : r.selects w = true)
    (h' : r.selects w' = true) (hops : operandsOf r.op w = operandsOf r.op w') : w = w' := by
  refine BitVec.eq_of_getLsbD_eq fun i hi => ?_
  rcases mask_or_operandField r hr i hi with hmask | ⟨f, hf, hlo, hhi⟩
  · have hpat : w &&& r.mask = w' &&& r.mask := by
      simp only [Row.selects, beq_iff_eq] at h h'
      exact h.trans h'.symm
    simpa [hmask] using congrArg (BitVec.getLsbD · i) hpat
  · exact getLsbD_eq_of_extractLsb'_eq (operandFields_eq_of_operandsOf_eq r.op hops f hf) hlo hhi

theorem encode_of_decode (h : decode w = .ok i) : i.wellFormed = true ∧ encode i = w := by
  obtain ⟨r, hr, hsel, rfl⟩ := selects_of_decode h
  have hwf := operandsOf_wellFormed r.op w
  obtain ⟨r', hr', hop, hsel'⟩ := encodesItsRow (operandsOf r.op w)
  rw [opOf_operandsOf] at hop
  obtain rfl := rows_eq_of_op_eq r' hr' r hr hop
  have hops := operandsOf_encode hwf
  rw [opOf_operandsOf] at hops
  exact ⟨hwf, eq_of_selects_of_operandsOf_eq hr hsel' hsel hops⟩

end Codec

/-! ## The statements -/

/-- Settles O1: the word's row gives back the operands, and a port of 32 or more bits loses no bit
of the word. -/
theorem decodeEncodeRoundTrip : Obligations.DecodeEncodeRoundTrip := by
  intro i hwf
  exact ⟨decode_encode hwf, fun p hp => (decodeCommand_toNat hp _).trans (decode_encode hwf)⟩

/-- Settles O2: the word and the word of its operation select the same row with the same
operands. -/
theorem decodedWordIsItsEncoding : Obligations.DecodedWordIsItsEncoding := by
  refine ⟨fun w i h => encode_of_decode h, fun p v i h => ?_⟩
  obtain ⟨hlt, hdec⟩ := decode_of_decodeCommand h
  obtain ⟨hwf, henc⟩ := encode_of_decode hdec
  exact ⟨hwf, by rw [henc, BitVec.toNat_ofNat, Nat.mod_eq_of_lt hlt]⟩

/-- Settles O4: each word is the encoder's for its operation. -/
theorem specWordsDecode : Obligations.SpecWordsDecode :=
  ⟨decode_nop_word, decode_encode_sub .mouse, decode_encode_unsub .kbd, decode_irq_word 0x03#8,
    decode_of_encode_eq (i := .kbdInt) rfl rfl, decode_kbdReasm_word 0xE0#8,
    decode_of_encode_eq (i := .mouseInt) rfl rfl,
    decode_of_encode_eq (i := .mouseReasm 0xFF#8) rfl rfl,
    decode_of_encode_eq (i := .gestStep true false false 5 (-3)) rfl rfl, decode_gestReset_word,
    decode_gestCfg_word 10#8 2#8⟩

end Sys2Proof.Safety
end

section
/-! PROOFS. What every operation keeps: a property kept by each register update is kept by each
shared operation, each instruction and each step. From it, the registers' widths (R9, R30), what an
operation leaves of the output stream and of the host's and the environment's lists (R14, R31, R74),
and who writes `SUB`, the thresholds and the gesture registers (R33, R42, R44). -/

namespace Sys2Proof.Safety

open Sys2Proof.Machine

section Kept

variable {p : Config.Params} {Kept : State → Prop} {s t u : State} {i : Instr}

/-! ## The updates a property may survive -/

/-- `Kept` survives the port reads of a drain and the emission of a record. -/
structure KeptByPorts (p : Config.Params) (Kept : State → Prop) : Prop where
  afterSamples : ∀ k u, Kept u → Kept (afterSamples p k u)
  afterDrain : ∀ k u, Kept u → Kept (afterDrain p k u)
  emit : ∀ r u, Kept u → Kept (emit r u)

/-- `Kept` survives the writes of the keyboard channel (R130, R144). -/
structure KeptByKeyboard (p : Config.Params) (Kept : State → Prop) : Prop
    extends KeptByPorts p Kept where
  recordLast : ∀ d u, Kept u → Kept (recordLast .kbd d u)
  armPrefix : ∀ b u, Kept u → Kept (armPrefix b u)
  clearPending : ∀ u, Kept u → Kept (clearPending u)

/-- `Kept` survives the writes of the mouse channel and of its gesture FSM (R180, R212); the sums
that a stroke writes fit their registers (R230). -/
structure KeptByMouse (p : Config.Params) (Kept : State → Prop) : Prop
    extends KeptByPorts p Kept where
  captureByte0 : ∀ b u, Kept u → Kept (captureByte0 p b u)
  captureByte1 : ∀ b u, Kept u → Kept (captureByte1 p b u)
  captureByte2 : ∀ b u, Kept u → Kept (captureByte2 p b u)
  transition : ∀ g u, Kept u → Kept (transition g u)
  writeSums : ∀ x y u, fitsSigned p.sumWidth x → fitsSigned p.sumWidth y → Kept u →
    Kept (writeSums x y u)

/-- `Kept` survives every update that an operation makes. -/
structure KeptByUpdates (p : Config.Params) (Kept : State → Prop) : Prop
    extends KeptByKeyboard p Kept, KeptByMouse p Kept where
  setSub : ∀ ch u, Kept u → Kept (setSub ch u)
  clearSub : ∀ ch u, Kept u → Kept (clearSub ch u)
  writeParams : ∀ xLen tol u, Kept u → Kept (writeParams p xLen tol u)

/-! ## The keyboard channel -/

theorem KeptByPorts.drain (hk : KeptByPorts p Kept) {ch : Channel}
    (hrecord : ∀ d u, Kept u → Kept (recordLast ch d u)) (h : Kept s) :
    Kept (drain p ch s).2 := by
  rcases drain_state_cases p ch s with ⟨k, d, heq⟩ | heq <;> rw [heq]
  · exact hrecord d _ (hk.afterDrain k s h)
  · exact hk.afterSamples p.pollBudget s h

theorem KeptByKeyboard.kbdReassemble (hk : KeptByKeyboard p Kept) (b : Byte) (h : Kept s) :
    Kept (kbdReassemble p b s) := by
  rcases kbdReassemble_cases p b s with ⟨-, heq⟩ | ⟨-, -, heq⟩ | ⟨-, -, heq⟩ <;> rw [heq]
  · exact hk.armPrefix b s h
  · exact hk.emit _ _ (hk.clearPending s h)
  · exact hk.emit _ s h

theorem KeptByKeyboard.kbdHandler (hk : KeptByKeyboard p Kept) (h : Kept s) :
    Kept (kbdHandler p s) := by
  have hdrained := hk.drain hk.recordLast h
  rcases kbdHandler_cases p s with ⟨kind, heq⟩ | ⟨d, heq⟩ <;> rw [heq]
  · exact hk.emit _ _ hdrained
  · exact hk.kbdReassemble d hdrained

theorem KeptByKeyboard.irqKbd (hk : KeptByKeyboard p Kept) (m : Byte) (h : Kept s) :
    Kept (irqKbd p m s) := by
  rcases irqKbd_cases p m s with heq | heq <;> rw [heq]
  · exact hk.kbdHandler h
  · exact h

/-! ## The mouse channel -/

theorem fitsSigned_zero (n : Nat) : fitsSigned n 0 := by
  have hpos : (0 : Int) < 2 ^ n := by positivity
  constructor <;> omega

theorem fitsSigned_addClampedBelow (p : Config.Params) (sum d : Int) :
    fitsSigned p.sumWidth (addClampedBelow p sum d) := by
  rw [addClampedBelow]
  rcases max_choice 0 (wrapTo p.sumWidth (sum + d)) with heq | heq <;> rw [heq]
  · exact fitsSigned_zero _
  · exact fitsSigned_wrapTo _ _

theorem fitsSigned_addClampedAbove (p : Config.Params) (sum d : Int) :
    fitsSigned p.sumWidth (addClampedAbove p sum d) := by
  rw [addClampedAbove]
  rcases min_choice 0 (wrapTo p.sumWidth (sum + d)) with heq | heq <;> rw [heq]
  · exact fitsSigned_zero _
  · exact fitsSigned_wrapTo _ _

theorem KeptByMouse.gestureStep (hm : KeptByMouse p Kept) (btn : Buttons) (dx dy : Int)
    (h : Kept s) : Kept (gestureStep p btn dx dy s) := by
  rcases gestureStep_cases p btn dx dy s with
    ⟨heq, -⟩ | ⟨g, -, -, heq⟩ | ⟨-, heq⟩ | ⟨-, heq⟩ | ⟨-, heq⟩ <;> rw [heq]
  · exact h
  · exact hm.transition g s h
  · exact hm.writeSums _ _ s (fitsSigned_addClampedBelow p _ _) (fitsSigned_addClampedBelow p _ _) h
  · exact hm.writeSums _ _ s (fitsSigned_addClampedBelow p _ _) (fitsSigned_addClampedAbove p _ _) h
  · exact hm.emit _ _ (hm.transition .complete s h)

theorem KeptByMouse.packetComplete (hm : KeptByMouse p Kept) (h : Kept s) :
    Kept (packetComplete p s) :=
  hm.gestureStep _ _ _ (hm.emit _ s h)

theorem KeptByMouse.mouseReassemble (hm : KeptByMouse p Kept) (b : Byte) (h : Kept s) :
    Kept (mouseReassemble p b s) := by
  rcases mouseReassemble_cases p b s with
    ⟨-, -, heq⟩ | ⟨-, -, heq⟩ | ⟨-, heq⟩ | ⟨-, heq⟩ <;> rw [heq]
  · exact hm.emit _ s h
  · exact hm.captureByte0 b s h
  · exact hm.captureByte1 b s h
  · exact hm.packetComplete (hm.captureByte2 b s h)

theorem KeptByMouse.mouseHandler (hm : KeptByMouse p Kept) (h : Kept s) :
    Kept (mouseHandler p s) := by
  have hdrained := hm.drain (ch := .mouse) (fun _ _ h => h) h
  rcases mouseHandler_cases p s with ⟨kind, heq⟩ | ⟨d, heq⟩ <;> rw [heq]
  · exact hm.emit _ _ hdrained
  · exact hm.mouseReassemble d hdrained

theorem KeptByMouse.irqMouse (hm : KeptByMouse p Kept) (m : Byte) (h : Kept s) :
    Kept (irqMouse p m s) := by
  rcases irqMouse_cases p m s with heq | heq <;> rw [heq]
  · exact hm.mouseHandler h
  · exact h

/-! ## The instructions -/

/-- The operations by which the host sets `SUB` and the thresholds (R262, R263, R245). -/
def hostSets : Instr → Bool
  | .sub _ => true
  | .unsub _ => true
  | .gestCfg _ _ => true
  | _ => false

/-- SUB, UNSUB and GEST_CFG apart, an operation makes only the two channels' updates. -/
theorem exec_keeps_of_channels (hk : KeptByKeyboard s.config Kept) (hm : KeptByMouse s.config Kept)
    (i : Instr) (hi : hostSets i = false) (h : Kept s) : ∃ t, exec i s = .next t ∧ Kept t := by
  cases i with
  | nop => exact ⟨s, rfl, h⟩
  | sub ch => exact absurd hi nofun
  | unsub ch => exact absurd hi nofun
  | irq m => exact ⟨_, exec_irq m s, hm.irqMouse m (hk.irqKbd m h)⟩
  | kbdInt => exact ⟨_, exec_kbdInt s, hk.kbdHandler h⟩
  | kbdReasm b => exact ⟨_, exec_kbdReasm b s, hk.kbdReassemble b h⟩
  | mouseInt => exact ⟨_, exec_mouseInt s, hm.mouseHandler h⟩
  | mouseReasm b => exact ⟨_, exec_mouseReasm b s, hm.mouseReassemble b h⟩
  | gestStep lb rb mb dx dy =>
    exact ⟨_, exec_gestStep lb rb mb dx dy s, hm.gestureStep ⟨lb, rb, mb⟩ dx dy h⟩
  | gestReset => exact ⟨_, exec_gestReset s, hm.transition .idle s h⟩
  | gestCfg xLen tol => exact absurd hi nofun

/-- A property that every update keeps is kept by every operation. -/
theorem exec_keeps (hu : KeptByUpdates s.config Kept) (h : Kept s) (hexec : exec i s = .next t) :
    Kept t := by
  suffices hkept : ∃ t', exec i s = .next t' ∧ Kept t' by
    obtain ⟨t', hexec', ht'⟩ := hkept
    rwa [← Host.Outcome.next.inj (hexec'.symm.trans hexec)]
  cases i with
  | sub ch => exact ⟨_, exec_sub ch s, hu.setSub ch s h⟩
  | unsub ch => exact ⟨_, exec_unsub ch s, hu.clearSub ch s h⟩
  | gestCfg xLen tol => exact ⟨_, exec_gestCfg xLen tol s, hu.writeParams xLen tol s h⟩
  | _ => exact exec_keeps_of_channels hu.toKeptByKeyboard hu.toKeptByMouse _ rfl h

/-! ## The step -/

/-- What a step can do: wait, reset the block, run the operation of a legal word, or report an
illegal one (R104, R106, R296, R320). -/
theorem step_cases (hstep : step s = .next t) :
    (s.inputs = [] ∧ t = s) ∨
    (∃ rest, s.inputs = .reset :: rest ∧ t = blockReset { s with inputs := rest }) ∨
    (∃ v rest i, s.inputs = .word v :: rest ∧ decodeCommand s.config v = .ok i ∧
      exec i { s with inputs := rest } = .next t) ∨
    ∃ v rest, s.inputs = .word v :: rest ∧
      t = emit (.discard .ctrl .illegalOp) { s with inputs := rest } := by
  cases hin : s.inputs with
  | nil =>
    rw [step_of_no_input hin] at hstep
    exact .inl ⟨rfl, (Host.Outcome.next.inj hstep).symm⟩
  | cons input rest =>
    cases input with
    | reset =>
      rw [step_of_reset hin] at hstep
      exact .inr (.inl ⟨rest, rfl, (Host.Outcome.next.inj hstep).symm⟩)
    | word v =>
      cases hdec : decodeCommand s.config v with
      | ok i =>
        rw [step_of_legal_word hin hdec] at hstep
        exact .inr (.inr (.inl ⟨v, rest, i, rfl, hdec, hstep⟩))
      | error reason =>
        rw [step_of_illegal_word hin hdec] at hstep
        exact .inr (.inr (.inr ⟨v, rest, rfl, (Host.Outcome.next.inj hstep).symm⟩))

/-- A property that every update, a reset and the taking of an input keep is kept by every step. -/
theorem step_keeps (hu : KeptByUpdates s.config Kept)
    (hinputs : ∀ rest u, Kept u → Kept { u with inputs := rest })
    (hreset : ∀ u, Kept u → Kept (blockReset u)) (h : Kept s) (hstep : step s = .next t) :
    Kept t := by
  rcases step_cases hstep with
    ⟨-, rfl⟩ | ⟨rest, -, rfl⟩ | ⟨v, rest, i, -, -, hexec⟩ | ⟨v, rest, -, rfl⟩
  · exact h
  · exact hreset _ (hinputs rest s h)
  · exact exec_keeps (s := { s with inputs := rest }) hu (hinputs rest s h) hexec
  · exact hu.emit _ _ (hinputs rest s h)

/-! ## Widths -/

/-- The parameters are `p`, and every register of a parameter's width fits it. -/
def FitsAt (p : Config.Params) (u : State) : Prop := u.config = p ∧ RegistersFit u

theorem registersFit_resetRegisters (config : Config.Params) (inputs : List Input)
    (statusIn dataIn : List Byte) (portReads : List PortAddr) :
    RegistersFit
      { State.reset with
        config := config, inputs := inputs, statusIn := statusIn, dataIn := dataIn,
        portReads := portReads } where
  deltaX := fitsSigned_zero _
  deltaY := fitsSigned_zero _
  xSum := fitsSigned_zero _
  ySum := fitsSigned_zero _
  xLen := by positivity
  tol := by positivity

theorem fitsAt_blockReset (h : FitsAt p s) : FitsAt p (blockReset s) :=
  ⟨h.1, registersFit_resetRegisters s.config s.inputs s.statusIn s.dataIn s.portReads⟩

/-- A delta register takes what `wrap_N` leaves (R41, log 9). -/
theorem fitsSigned_deltaOf (p : Config.Params) (sign : Bool) (b : Byte) :
    fitsSigned p.deltaWidth (deltaOf p sign b) :=
  fitsSigned_wrapTo _ _

/-- A threshold register takes the low bits of the byte (R44, log 9). -/
theorem thresholdOf_lt (p : Config.Params) (v : Byte) : thresholdOf p v < 2 ^ p.paramWidth :=
  Nat.mod_lt _ (by positivity)

/-- Every write of a register of a parameter's width brings its number into that width. -/
theorem fitsAt_keptByUpdates (p : Config.Params) : KeptByUpdates p (FitsAt p) where
  afterSamples _ _ := fun ⟨hp, h⟩ => ⟨hp, { h with }⟩
  afterDrain _ _ := fun ⟨hp, h⟩ => ⟨hp, { h with }⟩
  emit _ _ := fun ⟨hp, h⟩ => ⟨hp, { h with }⟩
  recordLast _ _ := fun ⟨hp, h⟩ => ⟨hp, { h with }⟩
  armPrefix _ _ := fun ⟨hp, h⟩ => ⟨hp, { h with }⟩
  clearPending _ := fun ⟨hp, h⟩ => ⟨hp, { h with }⟩
  captureByte0 _ _ := fun ⟨hp, h⟩ => ⟨hp, { h with }⟩
  captureByte1 b u := by
    rintro ⟨rfl, h⟩
    exact ⟨rfl, { h with deltaX := fitsSigned_deltaOf u.config u.mouseXS b }⟩
  captureByte2 b u := by
    rintro ⟨rfl, h⟩
    exact ⟨rfl, { h with deltaY := fitsSigned_deltaOf u.config u.mouseYS b }⟩
  transition _ _ := fun ⟨hp, h⟩ =>
    ⟨hp, { h with xSum := fitsSigned_zero _, ySum := fitsSigned_zero _ }⟩
  writeSums x y u hx hy := by
    rintro ⟨rfl, h⟩
    exact ⟨rfl, { h with xSum := hx, ySum := hy }⟩
  setSub _ _ := fun ⟨hp, h⟩ => ⟨hp, { h with }⟩
  clearSub _ _ := fun ⟨hp, h⟩ => ⟨hp, { h with }⟩
  writeParams xLen tol u := by
    rintro ⟨rfl, h⟩
    exact ⟨rfl, { h with xLen := thresholdOf_lt u.config xLen, tol := thresholdOf_lt u.config tol }⟩

/-- No update writes the parameters (log 8). -/
theorem config_keptByUpdates (p p' : Config.Params) :
    KeptByUpdates p (fun u => u.config = p') where
  afterSamples _ _ h := h
  afterDrain _ _ h := h
  emit _ _ h := h
  recordLast _ _ h := h
  armPrefix _ _ h := h
  clearPending _ h := h
  captureByte0 _ _ h := h
  captureByte1 _ _ h := h
  captureByte2 _ _ h := h
  transition _ _ h := h
  writeSums _ _ _ _ _ h := h
  setSub _ _ h := h
  clearSub _ _ h := h
  writeParams _ _ _ h := h

/-! ## The output stream and the lists of the host and the environment -/

/-- From `s` to `t` records are only appended, the inputs stand, and answers are used up from the
front only. -/
structure OnlyAppends (s t : State) : Prop where
  out : ∃ rs, t.out = s.out ++ rs
  inputs : t.inputs = s.inputs
  statusIn : ∃ n, t.statusIn = s.statusIn.drop n
  dataIn : ∃ n, t.dataIn = s.dataIn.drop n

theorem OnlyAppends.refl (s : State) : OnlyAppends s s :=
  ⟨⟨[], by simp⟩, rfl, ⟨0, rfl⟩, ⟨0, rfl⟩⟩

theorem exists_drop_drop {α : Type} {l l' : List α} (h : ∃ n, l' = l.drop n) (k : Nat) :
    ∃ n, l'.drop k = l.drop n := by
  obtain ⟨n, rfl⟩ := h
  exact ⟨n + k, List.drop_drop⟩

theorem onlyAppends_keptByUpdates (p : Config.Params) (s : State) :
    KeptByUpdates p (OnlyAppends s) where
  afterSamples k _ h := { h with statusIn := exists_drop_drop h.statusIn k }
  afterDrain k _ h :=
    { h with
      statusIn := exists_drop_drop h.statusIn k
      dataIn := exists_drop_drop h.dataIn 1 }
  emit r u h := by
    obtain ⟨rs, hout⟩ := h.out
    exact { h with out := ⟨rs ++ [r.word], by rw [emit_out, hout, List.append_assoc]⟩ }
  recordLast _ _ h := { h with }
  armPrefix _ _ h := { h with }
  clearPending _ h := { h with }
  captureByte0 _ _ h := { h with }
  captureByte1 _ _ h := { h with }
  captureByte2 _ _ h := { h with }
  transition _ _ h := { h with }
  writeSums _ _ _ _ _ h := { h with }
  setSub _ _ h := { h with }
  clearSub _ _ h := { h with }
  writeParams _ _ _ h := { h with }

/-! ## What only the host sets -/

/-- The subscriptions and the thresholds, which the two channels do not write (R33, R44). -/
def hostSide (s : State) : BitVec 2 × Nat × Nat := (s.sub, s.gestXLen, s.gestTol)

theorem hostSide_keptByKeyboard (p : Config.Params) (s : State) :
    KeptByKeyboard p (fun u => hostSide u = hostSide s) where
  afterSamples _ _ h := h
  afterDrain _ _ h := h
  emit _ _ h := h
  recordLast _ _ h := h
  armPrefix _ _ h := h
  clearPending _ h := h

theorem hostSide_keptByMouse (p : Config.Params) (s : State) :
    KeptByMouse p (fun u => hostSide u = hostSide s) where
  afterSamples _ _ h := h
  afterDrain _ _ h := h
  emit _ _ h := h
  captureByte0 _ _ h := h
  captureByte1 _ _ h := h
  captureByte2 _ _ h := h
  transition _ _ h := h
  writeSums _ _ _ _ _ h := h

theorem exec_keeps_hostSide (hi : hostSets i = false) (hexec : exec i s = .next t) :
    hostSide t = hostSide s := by
  obtain ⟨t', hexec', ht'⟩ := exec_keeps_of_channels (hostSide_keptByKeyboard s.config s)
    (hostSide_keptByMouse s.config s) i hi rfl
  rwa [← Host.Outcome.next.inj (hexec'.symm.trans hexec)]

/-- SUB and UNSUB apart, an operation keeps `SUB` (R33). -/
theorem exec_keeps_sub (hsub : ∀ ch, i ≠ .sub ch) (hunsub : ∀ ch, i ≠ .unsub ch)
    (hexec : exec i s = .next t) : t.sub = s.sub := by
  cases i with
  | sub ch => exact absurd rfl (hsub ch)
  | unsub ch => exact absurd rfl (hunsub ch)
  | gestCfg xLen tol =>
    obtain rfl := Host.Outcome.next.inj ((exec_gestCfg xLen tol s).symm.trans hexec)
    rfl
  | _ => exact congrArg Prod.fst (exec_keeps_hostSide rfl hexec)

/-- GEST_CFG apart, an operation keeps the thresholds (R44). -/
theorem exec_keeps_params (hcfg : ∀ xLen tol, i ≠ .gestCfg xLen tol)
    (hexec : exec i s = .next t) : sameParams s t := by
  cases i with
  | sub ch =>
    obtain rfl := Host.Outcome.next.inj ((exec_sub ch s).symm.trans hexec)
    exact ⟨rfl, rfl⟩
  | unsub ch =>
    obtain rfl := Host.Outcome.next.inj ((exec_unsub ch s).symm.trans hexec)
    exact ⟨rfl, rfl⟩
  | gestCfg xLen tol => exact absurd rfl (hcfg xLen tol)
  | _ => exact Prod.mk.inj (congrArg Prod.snd (exec_keeps_hostSide rfl hexec))

/-! ## Who writes the gesture state and the sums -/

theorem sameGesture_keptByKeyboard (p : Config.Params) (s : State) :
    KeptByKeyboard p (sameGesture s) where
  afterSamples _ _ h := h
  afterDrain _ _ h := h
  emit _ _ h := h
  recordLast _ _ h := h
  armPrefix _ _ h := h
  clearPending _ h := h

theorem sameGesture_irqKbd (p : Config.Params) (m : Byte) (s : State) :
    sameGesture s (irqKbd p m s) :=
  (sameGesture_keptByKeyboard p s).irqKbd m ⟨rfl, rfl, rfl⟩

/-- From `s` to `t` the gesture registers stand, unless a packet is completed at slot 2 and its
record emitted (R183, R185). -/
def GestureMovesByPacket (s t : State) : Prop :=
  sameGesture s t ∨
    s.mouseSlot = .slot2 ∧
      ∃ b0 b1 b2 : Byte, (Record.packet b0 b1 b2).word ∈ t.out.drop s.out.length

/-- What comes before may emit records, if it leaves the slot and the gesture alone. -/
theorem GestureMovesByPacket.of_start (h : GestureMovesByPacket u t) (hg : sameGesture s u)
    (hslot : u.mouseSlot = s.mouseSlot) (hout : s.out.length ≤ u.out.length) :
    GestureMovesByPacket s t := by
  obtain ⟨hstate, hx, hy⟩ := hg
  rcases h with ⟨hstate', hx', hy'⟩ | ⟨hat, b0, b1, b2, hmem⟩
  · exact .inl ⟨hstate'.trans hstate, hx'.trans hx, hy'.trans hy⟩
  · exact .inr ⟨hslot.symm.trans hat, b0, b1, b2, List.drop_subset_drop_left t.out hout hmem⟩

theorem packet_mem_drop_packetComplete (p : Config.Params) (s : State) :
    (Record.packet s.mouseB0 s.mouseB1 s.mouseB2).word ∈
      (packetComplete p s).out.drop s.out.length := by
  rcases packetComplete_out p s with hout | hout <;> simp [hout]

theorem mouseReassemble_gestureMoves (p : Config.Params) (b : Byte) (s : State) :
    GestureMovesByPacket s (mouseReassemble p b s) := by
  rcases mouseReassemble_cases p b s with
    ⟨-, -, heq⟩ | ⟨-, -, heq⟩ | ⟨-, heq⟩ | ⟨hat, heq⟩ <;> rw [heq]
  · exact .inl ⟨rfl, rfl, rfl⟩
  · exact .inl ⟨rfl, rfl, rfl⟩
  · exact .inl ⟨rfl, rfl, rfl⟩
  · exact .inr ⟨hat, _, _, _, packet_mem_drop_packetComplete p (captureByte2 p b s)⟩

theorem mouseSlot_eq_of_mousePart (h : mousePart t = mousePart s) : t.mouseSlot = s.mouseSlot :=
  (mousePart_eq_iff.mp h).1.1

theorem mouseHandler_gestureMoves (p : Config.Params) (s : State) :
    GestureMovesByPacket s (mouseHandler p s) := by
  have hdrain : sameGesture s (drain p .mouse s).2 :=
    (sameGesture_keptByKeyboard p s).drain (fun _ _ h => h) ⟨rfl, rfl, rfl⟩
  rcases mouseHandler_cases p s with ⟨kind, heq⟩ | ⟨d, heq⟩ <;> rw [heq]
  · exact .inl hdrain
  · exact (mouseReassemble_gestureMoves p d _).of_start hdrain
      (mouseSlot_eq_of_mousePart (mousePart_drain p .mouse s)) (by rw [drain_out])

theorem mousePart_irqKbd (p : Config.Params) (m : Byte) (s : State) :
    mousePart (irqKbd p m s) = mousePart s := by
  rcases irqKbd_cases p m s with heq | heq <;> rw [heq]
  exact mousePart_kbdHandler p s

theorem length_out_le_irqKbd (p : Config.Params) (m : Byte) (s : State) :
    s.out.length ≤ (irqKbd p m s).out.length := by
  obtain ⟨-, rs, hout, -⟩ := gestureLeftAlone_irqKbd p m s
  rw [hout, List.length_append]
  exact Nat.le_add_right _ _

/-- An IRQ's mouse half starts with the slot and the gesture that the keyboard's half left alone. -/
theorem irqDispatch_gestureMoves (p : Config.Params) (m : Byte) (s : State) :
    GestureMovesByPacket s (irqDispatch p m s) := by
  rw [irqDispatch]
  rcases irqMouse_cases p m (irqKbd p m s) with heq | heq <;> rw [heq]
  · exact (mouseHandler_gestureMoves p _).of_start (sameGesture_irqKbd p m s)
      (mouseSlot_eq_of_mousePart (mousePart_irqKbd p m s)) (length_out_le_irqKbd p m s)
  · exact .inl (sameGesture_irqKbd p m s)

/-- An operation that hands no byte to the packet reassembler keeps the gesture registers, GEST_STEP
and GEST_RESET apart (R42). -/
theorem exec_keeps_gesture (hstepOp : ∀ lb rb mb dx dy, i ≠ .gestStep lb rb mb dx dy)
    (hresetOp : i ≠ .gestReset) (htouch : touchesMouse s.config i = false) :
    ∃ t, exec i s = .next t ∧ sameGesture s t := by
  have hk := sameGesture_keptByKeyboard s.config s
  have hrefl : sameGesture s s := ⟨rfl, rfl, rfl⟩
  cases i with
  | irq m =>
    have hbit : m.getLsbD s.config.irqBitMouse = false := htouch
    have hskip : irqMouse s.config m (irqKbd s.config m s) = irqKbd s.config m s :=
      if_neg (by simp [hbit])
    exact ⟨_, exec_irq m s, by rw [irqDispatch, hskip]; exact hk.irqKbd m hrefl⟩
  | kbdInt => exact ⟨_, exec_kbdInt s, hk.kbdHandler hrefl⟩
  | kbdReasm b => exact ⟨_, exec_kbdReasm b s, hk.kbdReassemble b hrefl⟩
  | mouseInt => exact absurd htouch nofun
  | mouseReasm b => exact absurd htouch nofun
  | gestStep lb rb mb dx dy => exact absurd rfl (hstepOp lb rb mb dx dy)
  | gestReset => exact absurd rfl hresetOp
  | nop => exact ⟨_, rfl, hrefl⟩
  | sub ch => exact ⟨_, exec_sub ch s, hrefl⟩
  | unsub ch => exact ⟨_, exec_unsub ch s, hrefl⟩
  | gestCfg xLen tol => exact ⟨_, exec_gestCfg xLen tol s, hrefl⟩

/-- An operation that can hand a byte to the packet reassembler moves the gesture only with a
completed packet. -/
theorem exec_gestureMoves (htouch : touchesMouse s.config i = true) :
    ∃ t, exec i s = .next t ∧ GestureMovesByPacket s t := by
  cases i with
  | irq m => exact ⟨_, exec_irq m s, irqDispatch_gestureMoves s.config m s⟩
  | mouseInt => exact ⟨_, exec_mouseInt s, mouseHandler_gestureMoves s.config s⟩
  | mouseReasm b => exact ⟨_, exec_mouseReasm b s, mouseReassemble_gestureMoves s.config b s⟩
  | _ => exact absurd htouch nofun

end Kept

/-! ## The statements -/

/-- Settles O60: no update writes the parameters, and each brings its number into the register's
width. -/
theorem everyStepKeepsWidths : Obligations.EveryStepKeepsWidths := by
  intro s t hstep
  constructor
  · exact step_keeps (Kept := fun u => u.config = s.config)
      (config_keptByUpdates s.config s.config) (fun _ _ h => h) (fun _ h => h) rfl hstep
  · intro hfits
    have ht : FitsAt s.config t :=
      step_keeps (fitsAt_keptByUpdates s.config) (fun _ _ ⟨hp, h⟩ => ⟨hp, { h with }⟩)
        (fun _ h => fitsAt_blockReset h) ⟨rfl, hfits⟩ hstep
    exact ht.2

/-- Settles O14: no update does more than append a record or use up answers. -/
theorem outputOnlyGrows : Obligations.OutputOnlyGrows := by
  intro i s t hexec
  obtain ⟨hout, hinputs, hstatus, hdata⟩ :=
    exec_keeps (onlyAppends_keptByUpdates s.config s) (.refl s) hexec
  exact ⟨hout, hinputs, hstatus, hdata⟩

/-- Settles O55: the thresholds are the host's to set, and a byte moves the gesture only as the
third of a packet. -/
theorem gestureStateHasFewWriters : Obligations.GestureStateHasFewWriters := by
  intro i s t hexec
  refine ⟨fun hcfg => exec_keeps_params hcfg hexec, fun hstepOp hresetOp hmoved => ?_⟩
  cases htouch : touchesMouse s.config i with
  | false =>
    obtain ⟨t', hexec', hsame⟩ := exec_keeps_gesture hstepOp hresetOp htouch
    obtain rfl : t' = t := Host.Outcome.next.inj (hexec'.symm.trans hexec)
    exact absurd hsame hmoved
  | true =>
    obtain ⟨t', hexec', hmoves⟩ := exec_gestureMoves htouch
    obtain rfl : t' = t := Host.Outcome.next.inj (hexec'.symm.trans hexec)
    obtain ⟨hslot, hpacket⟩ := hmoves.resolve_left hmoved
    exact ⟨rfl, hslot, hpacket⟩

end Sys2Proof.Safety
end

section
/-! PROOFS. What every step keeps: R49's invariants and, with them, an output stream of records that
the rules produce (R109 to R114, R144, R187, R280). The step on each kind of input, and the state
after reset. -/

namespace Sys2Proof.Safety

open Sys2Proof.Machine

section OutputAllowed

variable {p : Config.Params} {s t : State}

/-! ## Records the rules produce -/

theorem outputAllowed_of_eq (hout : t.out = s.out) (hconfig : t.config = s.config)
    (h : outputAllowed s) : outputAllowed t := by
  unfold outputAllowed at h ⊢
  rwa [hout, hconfig]

theorem outputAllowed_emit {r : Record} (hr : recordAllowed s.config r = true)
    (h : outputAllowed s) : outputAllowed (emit r s) := by
  intro w hw
  rcases List.mem_append.mp hw with hold | hnew
  · exact h w hold
  · exact ⟨r, hr, List.mem_singleton.mp hnew⟩

theorem outputAllowed_blockReset (s : State) : outputAllowed (blockReset s) := nofun

/-- A validation that fails gives a kind of R280's table for its channel. -/
theorem discardAllowed_of_validate {ch : Channel} {st : Byte} {kind : ErrorKind}
    (h : validate p ch st = some kind) : discardAllowed (recordChannel ch) kind = true := by
  cases ch with
  | kbd =>
    simp only [validate, validateKbd] at h
    split_ifs at h <;> cases h <;> rfl
  | mouse =>
    simp only [validate, validateMouse] at h
    split_ifs at h <;> cases h <;> rfl

/-- A drain that fails gives a kind of R280's table for its channel. -/
theorem discardAllowed_of_drain {ch : Channel} {kind : ErrorKind} {s' : State}
    (h : drain p ch s = (.error kind, s')) : discardAllowed (recordChannel ch) kind = true := by
  rcases firstFull_or_neverFull p s with ⟨k, hfull⟩ | hnever
  · rw [drain_of_firstFull ch hfull] at h
    cases hv : validate p ch (statusAt p s k) with
    | none => simp [hv] at h
    | some kind' =>
      obtain rfl : kind' = kind := by simpa [hv] using congrArg Prod.fst h
      exact discardAllowed_of_validate hv
  · rw [drain_of_neverFull ch hnever] at h
    obtain rfl : ErrorKind.pollTimeout = kind := Except.error.inj (congrArg Prod.fst h)
    cases ch <;> rfl

/-! ## The channels -/

theorem outputAllowed_drain (ch : Channel) (h : outputAllowed s) :
    outputAllowed (drain p ch s).2 :=
  outputAllowed_of_eq (drain_out p ch s) (drain_config p ch s) h

/-- A byte gives a KEY record of R144's form; the stored first byte is `EXT_PREFIX` (R76). -/
theorem outputAllowed_kbdReassemble (b : Byte) (hp : s.config = p) (hinv : Invariant s)
    (h : outputAllowed s) : outputAllowed (kbdReassemble p b s) := by
  subst hp
  rcases kbdReassemble_cases s.config b s with ⟨-, heq⟩ | ⟨hb, hpend, heq⟩ | ⟨hb, -, heq⟩ <;>
    rw [heq]
  · exact outputAllowed_of_eq rfl rfl h
  · refine outputAllowed_emit ?_ (outputAllowed_of_eq (t := clearPending s) rfl rfl h)
    simp [recordAllowed, isMake, hb, hinv.prefixStored hpend]
  · refine outputAllowed_emit ?_ h
    simp [recordAllowed, isMake, hb]

theorem outputAllowed_kbdHandler (hp : s.config = p) (hinv : Invariant s) (h : outputAllowed s) :
    outputAllowed (kbdHandler p s) := by
  have hdrained := outputAllowed_drain (p := p) .kbd h
  have hinv' := invariant_drain (p := p) .kbd hinv
  have hp' := (drain_config p .kbd s).trans hp
  rcases hd : drain p .kbd s with ⟨kind | d, s'⟩ <;> rw [kbdHandler_of_drain hd] <;>
    rw [hd] at hdrained hinv' hp'
  · exact outputAllowed_emit (discardAllowed_of_drain hd) hdrained
  · exact outputAllowed_kbdReassemble d hp' hinv' hdrained

theorem outputAllowed_gestureStep (btn : Buttons) (dx dy : Int) (h : outputAllowed s) :
    outputAllowed (gestureStep p btn dx dy s) := by
  rcases gestureStep_cases p btn dx dy s with
    ⟨heq, -⟩ | ⟨g, -, -, heq⟩ | ⟨-, heq⟩ | ⟨-, heq⟩ | ⟨-, heq⟩ <;> rw [heq]
  · exact h
  · exact outputAllowed_of_eq rfl rfl h
  · exact outputAllowed_of_eq rfl rfl h
  · exact outputAllowed_of_eq rfl rfl h
  · exact outputAllowed_emit rfl (outputAllowed_of_eq (t := transition .complete s) rfl rfl h)

/-- A packet is completed only behind a first byte with its sync bit (R187). -/
theorem outputAllowed_mouseReassemble (b : Byte) (hp : s.config = p) (hinv : Invariant s)
    (h : outputAllowed s) : outputAllowed (mouseReassemble p b s) := by
  subst hp
  rcases mouseReassemble_cases s.config b s with
    ⟨-, -, heq⟩ | ⟨-, -, heq⟩ | ⟨-, heq⟩ | ⟨hslot, heq⟩ <;> rw [heq]
  · exact outputAllowed_emit rfl h
  · exact outputAllowed_of_eq rfl rfl h
  · exact outputAllowed_of_eq rfl rfl h
  · obtain ⟨hsync, -, -⟩ := hinv.packetOpen (by simp [hslot])
    have hcaptured : outputAllowed (captureByte2 s.config b s) := outputAllowed_of_eq rfl rfl h
    exact outputAllowed_gestureStep _ _ _ (outputAllowed_emit hsync hcaptured)

theorem outputAllowed_mouseHandler (hp : s.config = p) (hinv : Invariant s)
    (h : outputAllowed s) : outputAllowed (mouseHandler p s) := by
  have hdrained := outputAllowed_drain (p := p) .mouse h
  have hinv' := invariant_drain (p := p) .mouse hinv
  have hp' := (drain_config p .mouse s).trans hp
  rcases hd : drain p .mouse s with ⟨kind | d, s'⟩ <;> rw [mouseHandler_of_drain hd] <;>
    rw [hd] at hdrained hinv' hp'
  · exact outputAllowed_emit (discardAllowed_of_drain hd) hdrained
  · exact outputAllowed_mouseReassemble d hp' hinv' hdrained

theorem outputAllowed_irqKbd (m : Byte) (hp : s.config = p) (hinv : Invariant s)
    (h : outputAllowed s) : outputAllowed (irqKbd p m s) := by
  rcases irqKbd_cases p m s with heq | heq <;> rw [heq]
  · exact outputAllowed_kbdHandler hp hinv h
  · exact h

theorem outputAllowed_irqMouse (m : Byte) (hp : s.config = p) (hinv : Invariant s)
    (h : outputAllowed s) : outputAllowed (irqMouse p m s) := by
  rcases irqMouse_cases p m s with heq | heq <;> rw [heq]
  · exact outputAllowed_mouseHandler hp hinv h
  · exact h

/-! ## The instructions -/

/-- Every instruction answers a next state, and emits only records that the rules produce. -/
theorem exec_keeps_outputAllowed (i : Instr) (hinv : Invariant s) (h : outputAllowed s) :
    ∃ t, exec i s = .next t ∧ outputAllowed t := by
  cases i with
  | nop => exact ⟨s, rfl, h⟩
  | sub ch => exact ⟨_, exec_sub ch s, outputAllowed_of_eq rfl rfl h⟩
  | unsub ch => exact ⟨_, exec_unsub ch s, outputAllowed_of_eq rfl rfl h⟩
  | irq m =>
    exact ⟨_, exec_irq m s, outputAllowed_irqMouse m (irqKbd_config s.config m s)
      (invariant_irqKbd m rfl hinv) (outputAllowed_irqKbd m rfl hinv h)⟩
  | kbdInt => exact ⟨_, exec_kbdInt s, outputAllowed_kbdHandler rfl hinv h⟩
  | kbdReasm b => exact ⟨_, exec_kbdReasm b s, outputAllowed_kbdReassemble b rfl hinv h⟩
  | mouseInt => exact ⟨_, exec_mouseInt s, outputAllowed_mouseHandler rfl hinv h⟩
  | mouseReasm b => exact ⟨_, exec_mouseReasm b s, outputAllowed_mouseReassemble b rfl hinv h⟩
  | gestStep lb rb mb dx dy =>
    exact ⟨_, exec_gestStep lb rb mb dx dy s, outputAllowed_gestureStep ⟨lb, rb, mb⟩ dx dy h⟩
  | gestReset => exact ⟨_, exec_gestReset s, outputAllowed_of_eq rfl rfl h⟩
  | gestCfg xLen tol => exact ⟨_, exec_gestCfg xLen tol s, outputAllowed_of_eq rfl rfl h⟩

end OutputAllowed

/-! ## The statements -/

/-- Settles O57: the step lemma of the invariants, which asks nothing of how the state was
reached. -/
theorem everyStepKeepsInvariants : Obligations.EveryStepKeepsInvariants := by
  intro s t hinv hstep
  obtain ⟨t', hnext, ht⟩ := step_keeps_invariant hinv
  rwa [← Host.Outcome.next.inj (hnext.symm.trans hstep)]

/-- Settles O59: an operation's records are of the rules' forms, a reset empties the stream, and an
illegal word gives R104's record. -/
theorem everyStepKeepsOutputAllowed : Obligations.EveryStepKeepsOutputAllowed := by
  intro s t hinv hallowed hstep
  have htaken (rest : List Input) : outputAllowed { s with inputs := rest } := hallowed
  rcases step_cases hstep with
    ⟨-, rfl⟩ | ⟨rest, -, rfl⟩ | ⟨v, rest, i, -, -, hexec⟩ | ⟨v, rest, -, rfl⟩
  · exact hallowed
  · exact outputAllowed_blockReset _
  · obtain ⟨t', hexec', ht⟩ :=
      exec_keeps_outputAllowed i (invariant_withInputs rest hinv) (htaken rest)
    rwa [← Host.Outcome.next.inj (hexec'.symm.trans hexec)]
  · exact outputAllowed_emit rfl (htaken rest)

/-- Settles O9, by what the step does with a legal word. -/
theorem stepRunsDecodedOperation : Obligations.StepRunsDecodedOperation :=
  fun _ _ _ _ hin hdec => step_of_legal_word hin hdec

/-- Settles O10, by what the step does with no input. -/
theorem idleStepKeepsState : Obligations.IdleStepKeepsState :=
  fun _ hin => step_of_no_input hin

/-- Settles O12: the reset keeps of the state what `blockReset` names, with the input taken. -/
theorem resetInputRestoresRegisters : Obligations.ResetInputRestoresRegisters := by
  intro s rest hin
  rw [step_of_reset hin, blockReset]

/-- Settles O56: the reset registers at the default parameters, and R9's constraints on those. -/
theorem resetMeetsInvariants : Obligations.ResetMeetsInvariants :=
  ⟨invariant_of_resetRegisters params [] [] [] [], registersFit_resetRegisters params [] [] [] [],
    by decide⟩

end Sys2Proof.Safety
end

section
/-! PROOFS. The consumer's reading of the output stream (R109 to R114): a record's fields in its
word, and the word that the fields make up. -/

namespace Sys2Proof.Safety

open Sys2Proof.Machine

section Reading

variable {w w' : Word} {r : Record}

/-! ## Words with the same fields -/

/-- Words that agree in fields covering all 32 bits are the same word. -/
theorem eq_of_fields_eq {fields : List (Nat × Nat)}
    (hcover : ∀ i < 32, ∃ f ∈ fields, f.1 ≤ i ∧ i < f.1 + f.2)
    (h : ∀ f ∈ fields, w.extractLsb' f.1 f.2 = w'.extractLsb' f.1 f.2) : w = w' := by
  refine BitVec.eq_of_getLsbD_eq fun i hi => ?_
  obtain ⟨f, hf, hlo, hhi⟩ := hcover i hi
  exact getLsbD_eq_of_extractLsb'_eq (h f hf) hlo hhi

theorem key_fields_cover : ∀ i < 32,
    ∃ f ∈ [(0, 8), (8, 8), (16, 1), (17, 1), (18, 6), (24, 8)], f.1 ≤ i ∧ i < f.1 + f.2 := by
  decide

theorem packet_fields_cover : ∀ i < 32,
    ∃ f ∈ [(0, 8), (8, 8), (16, 8), (24, 8)], f.1 ≤ i ∧ i < f.1 + f.2 := by
  decide

theorem discard_fields_cover : ∀ i < 32,
    ∃ f ∈ [(0, 8), (8, 2), (10, 14), (24, 8)], f.1 ≤ i ∧ i < f.1 + f.2 := by
  decide

/-- The bits of a PACKET record's word, byte by byte from bit 0 up (R112). -/
theorem getLsbD_packet_word (b0 b1 b2 : Byte) {i : Nat} (hi : i < 32) :
    (Record.packet b0 b1 b2).word.getLsbD i =
      if i < 8 then b0.getLsbD i
      else if i < 16 then b1.getLsbD (i - 8)
      else if i < 24 then b2.getLsbD (i - 16)
      else (0x82#8).getLsbD (i - 24) := by
  simp only [Record.word, BitVec.getLsbD_or, BitVec.getLsbD_shiftLeft, BitVec.getLsbD_setWidth]
  interval_cases i <;> simp

/-- A PACKET record's tag and bytes (R112). -/
theorem packet_word_fields (b0 b1 b2 : Byte) :
    let w := (Record.packet b0 b1 b2).word
    w.extractLsb' 24 8 = 0x82#8 ∧ w.extractLsb' 0 8 = b0 ∧ w.extractLsb' 8 8 = b1 ∧
      w.extractLsb' 16 8 = b2 := by
  simp only [BitVec.eq_of_getLsbD_eq_iff, BitVec.getLsbD_extractLsb']
  refine ⟨fun j hj => ?tag, fun j hj => ?byte0, fun j hj => ?byte1, fun j hj => ?byte2⟩
  all_goals rw [getLsbD_packet_word b0 b1 b2 (by omega)]
  case tag =>
    rw [if_neg (by omega), if_neg (by omega), if_neg (by omega)]
    simp [hj]
  case byte0 => simp [hj]
  case byte1 => simp [hj, show 8 + j < 16 by omega]
  case byte2 =>
    rw [if_neg (by omega), if_neg (by omega), if_pos (by omega)]
    simp [hj]

/-! ## What the consumer reads -/

theorem recordOf_of_key_fields (htag : w.extractLsb' 24 8 = 0x81#8)
    (hzero : w.extractLsb' 18 6 = 0#6) :
    recordOf w = some (.key (w.getLsbD 16) (if w.getLsbD 17 then .two else .one)
      (w.extractLsb' 0 8) (w.extractLsb' 8 8)) := by
  simp only [recordOf, htag, hzero, reduceIte]

theorem recordOf_of_packet_tag (htag : w.extractLsb' 24 8 = 0x82#8) :
    recordOf w = some (.packet (w.extractLsb' 0 8) (w.extractLsb' 8 8) (w.extractLsb' 16 8)) := by
  have hkey : (0x82#8 : Byte) ≠ 0x81#8 := by decide
  simp only [recordOf, htag, if_neg hkey, reduceIte]

/-- A code names one kind (R280). -/
theorem errorKindOf_eq_some_iff (c : Byte) (kind : ErrorKind) :
    errorKindOf c = some kind ↔ kind.code = c := by
  constructor
  · intro h
    exact beq_iff_eq.mp (List.find?_some (p := fun k : ErrorKind => k.code == c) h)
  · rintro rfl
    cases kind <;> rfl

/-- A number names one channel (R110). -/
theorem recordChannelOf_eq_some_iff (n : BitVec 2) (ch : RecordChannel) :
    recordChannelOf n = some ch ↔ ch.number = n := by
  constructor
  · intro h
    exact beq_iff_eq.mp (List.find?_some (p := fun c : RecordChannel => c.number == n) h)
  · rintro rfl
    cases ch <;> rfl

/-- The four readings of a word, by its tag, with what each asks of it (R109, R111 to R114). -/
theorem recordOf_cases (h : recordOf w = some r) :
    (w.extractLsb' 24 8 = 0x81#8 ∧ w.extractLsb' 18 6 = 0#6 ∧
      r = .key (w.getLsbD 16) (if w.getLsbD 17 then .two else .one) (w.extractLsb' 0 8)
        (w.extractLsb' 8 8)) ∨
    (w.extractLsb' 24 8 = 0x82#8 ∧
      r = .packet (w.extractLsb' 0 8) (w.extractLsb' 8 8) (w.extractLsb' 16 8)) ∨
    (w = Record.gestureDone.word ∧ r = .gestureDone) ∨
    ∃ ch kind, w.extractLsb' 24 8 = 0x84#8 ∧ w.extractLsb' 10 14 = 0#14 ∧
      w.extractLsb' 8 2 = ch.number ∧ w.extractLsb' 0 8 = kind.code ∧ r = .discard ch kind := by
  simp only [recordOf] at h
  split at h
  case isTrue htag =>
    split at h
    case isTrue hzero => exact .inl ⟨htag, hzero, (Option.some.inj h).symm⟩
    case isFalse => exact absurd h nofun
  case isFalse =>
    split at h
    case isTrue htag => exact .inr (.inl ⟨htag, (Option.some.inj h).symm⟩)
    case isFalse =>
      split at h
      case isTrue hdone => exact .inr (.inr (.inl ⟨hdone, (Option.some.inj h).symm⟩))
      case isFalse =>
        split at h
        case isTrue htag =>
          split at h
          case h_1 ch kind hch hkind =>
            exact .inr (.inr (.inr ⟨ch, kind, htag.1, htag.2,
              ((recordChannelOf_eq_some_iff _ _).mp hch).symm,
              ((errorKindOf_eq_some_iff _ _).mp hkind).symm, (Option.some.inj h).symm⟩))
          case h_2 => exact absurd h nofun
        case isFalse => exact absurd h nofun

/-! ## Both directions -/

theorem recordOf_word (r : Record) : recordOf r.word = some r := by
  cases r with
  | key make len by0 by1 =>
    obtain ⟨htag, hby0, hby1, hzero⟩ := key_word_fields make len by0 by1
    have hmake : (Record.key make len by0 by1).word.getLsbD 16 = make :=
      getLsbD_key_word make len by0 by1 (by decide)
    have hlen : (Record.key make len by0 by1).word.getLsbD 17 = decide (len = .two) :=
      getLsbD_key_word make len by0 by1 (by decide)
    rw [recordOf_of_key_fields htag hzero, hmake, hlen, hby0, hby1]
    cases len <;> rfl
  | packet b0 b1 b2 =>
    obtain ⟨htag, hb0, hb1, hb2⟩ := packet_word_fields b0 b1 b2
    rw [recordOf_of_packet_tag htag, hb0, hb1, hb2]
  | gestureDone => decide
  | discard ch kind => cases ch <;> cases kind <;> decide

theorem word_of_recordOf (h : recordOf w = some r) : r.word = w := by
  rcases recordOf_cases h with
    ⟨htag, hzero, rfl⟩ | ⟨htag, rfl⟩ | ⟨rfl, rfl⟩ | ⟨ch, kind, htag, hzero, hch, hkind, rfl⟩
  · obtain ⟨htag', hby0, hby1, hzero'⟩ := key_word_fields (w.getLsbD 16)
      (if w.getLsbD 17 then .two else .one) (w.extractLsb' 0 8) (w.extractLsb' 8 8)
    refine eq_of_fields_eq key_fields_cover ?_
    simp only [List.forall_mem_cons, htag, htag', hzero, hzero', hby0, hby1, true_and]
    refine ⟨extractLsb'_one_eq_of_getLsbD_eq ?_, extractLsb'_one_eq_of_getLsbD_eq ?_, nofun⟩
    · exact getLsbD_key_word _ _ _ _ (by decide)
    · refine (getLsbD_key_word _ _ _ _ (by decide)).trans ?_
      cases w.getLsbD 17 <;> rfl
  · obtain ⟨htag', hb0, hb1, hb2⟩ :=
      packet_word_fields (w.extractLsb' 0 8) (w.extractLsb' 8 8) (w.extractLsb' 16 8)
    refine eq_of_fields_eq packet_fields_cover ?_
    simp [htag, htag', hb0, hb1, hb2]
  · rfl
  · obtain ⟨hkind', hch', hzero', htag'⟩ := discard_word_fields ch kind
    refine eq_of_fields_eq discard_fields_cover ?_
    simp [htag, htag', hzero, hzero', hch, hch', hkind, hkind']

end Reading

/-! ## The statements -/

/-- Settles O7: the record's fields are read back from its word, and fix every bit of it. -/
theorem recordsReadBack : Obligations.RecordsReadBack :=
  ⟨recordOf_word, fun _ _ h => word_of_recordOf h⟩

end Sys2Proof.Safety
end

section
/-! PROOFS. The sums of the gesture FSM (R211, R216, R223) and a data byte that validates (R140,
R175). -/

namespace Sys2Proof.Safety

open Sys2Proof.Machine

section GestureSums

variable {p : Config.Params} {s : State} {n : Nat} {v dx dy : Int}

/-! ## The sums of the gesture FSM -/

/-- Outside the two strokes a gesture step that does not stay goes to another state (R212). -/
theorem gestureStep_outside_strokes (p : Config.Params) (btn : Buttons) (dx dy : Int)
    (hone : s.gestState ≠ .stroke1) (htwo : s.gestState ≠ .stroke2) :
    gestureStep p btn dx dy s = s ∨
      ∃ g, g ≠ s.gestState ∧ gestureStep p btn dx dy s = transition g s := by
  cases hg : s.gestState with
  | idle =>
    simp only [gestureStep, hg]
    split
    · exact .inr ⟨.stroke1, by decide, rfl⟩
    · exact .inl rfl
  | stroke1 => exact absurd hg hone
  | apex =>
    simp only [gestureStep, hg, stepApex]
    split
    · exact .inr ⟨.idle, by decide, rfl⟩
    · split
      · exact .inr ⟨.stroke2, by decide, rfl⟩
      · exact .inl rfl
  | stroke2 => exact absurd hg htwo
  | complete => exact .inl (gestureStep_of_complete p btn dx dy hg)

/-- A gesture step into another state is a transition, which zeroes both sums (R211). -/
theorem gestureStep_zeroes_sums (p : Config.Params) (btn : Buttons) (dx dy : Int)
    (hmove : (gestureStep p btn dx dy s).gestState ≠ s.gestState) :
    (gestureStep p btn dx dy s).xSum = 0 ∧ (gestureStep p btn dx dy s).ySum = 0 := by
  rcases gestureStep_cases p btn dx dy s with
    ⟨heq, -⟩ | ⟨g, -, -, heq⟩ | ⟨-, heq⟩ | ⟨-, heq⟩ | ⟨-, heq⟩ <;> rw [heq] at hmove ⊢
  · exact absurd rfl hmove
  · exact ⟨rfl, rfl⟩
  · exact absurd rfl hmove
  · exact absurd rfl hmove
  · exact ⟨rfl, rfl⟩

/-- A gesture step that stays outside the strokes keeps the sums (R211). -/
theorem gestureStep_keeps_sums (p : Config.Params) (btn : Buttons) (dx dy : Int)
    (hstay : (gestureStep p btn dx dy s).gestState = s.gestState) (hone : s.gestState ≠ .stroke1)
    (htwo : s.gestState ≠ .stroke2) :
    (gestureStep p btn dx dy s).xSum = s.xSum ∧ (gestureStep p btn dx dy s).ySum = s.ySum := by
  rcases gestureStep_outside_strokes p btn dx dy hone htwo with heq | ⟨g, hg, heq⟩ <;>
    rw [heq] at hstay ⊢
  · exact ⟨rfl, rfl⟩
  · exact absurd hstay hg

/-- A number that fits a width is unchanged by `wrap_N` (R11). -/
theorem wrapped_of_fits (h : fitsSigned n v) : wrapped n v = v := by
  rw [← wrapTo_eq_wrapped, wrapTo_of_fits h]

end GestureSums

section GoodByte

variable {p : Config.Params} {s : State} {st : Byte} {k : Nat}

/-! ## A data byte that validates -/

theorem validateKbd_eq_none (hparity : st.getLsbD p.stParity = false)
    (htimeout : st.getLsbD p.stTimeout = false) (haux : st.getLsbD p.stAux = false) :
    validateKbd p st = none := by
  simp only [validateKbd, hparity, htimeout, haux, Bool.false_eq_true, reduceIte]

theorem validateMouse_eq_none (hparity : st.getLsbD p.stParity = false)
    (htimeout : st.getLsbD p.stTimeout = false) (haux : st.getLsbD p.stAux = true) :
    validateMouse p st = none := by
  simp only [validateMouse, hparity, htimeout, haux, Bool.not_true, Bool.false_eq_true, reduceIte]

/-- A data byte whose sample validates is handed on (R175). -/
theorem mouseHandler_of_valid (h : firstFull p s k)
    (hv : validateMouse p (statusAt p s k) = none) :
    mouseHandler p s = mouseReassemble p (dataAt p s (k + 1)) (afterDrain p (k + 1) s) := by
  have hd := drain_of_firstFull .mouse h
  simp only [validate, hv, recordLast_mouse] at hd
  exact mouseHandler_of_drain hd

end GoodByte

/-! ## The statements -/

/-- Settles O26: the drain hands the byte on with `KBD_LAST` written and the reads made. -/
theorem kbdIntHandsOnGoodByte : Obligations.KbdIntHandsOnGoodByte := by
  intro s k p hfull hparity htimeout haux
  refine ⟨_, rfl, ?_⟩
  rw [exec_kbdInt, kbdHandler_of_valid hfull (validateKbd_eq_none hparity htimeout haux)]
  rfl

/-- Settles O28: the drain hands the byte on with the reads made and no register written. -/
theorem mouseIntHandsOnGoodByte : Obligations.MouseIntHandsOnGoodByte := by
  intro s k p hfull hparity htimeout haux
  refine ⟨_, rfl, ?_⟩
  rw [exec_mouseInt, mouseHandler_of_valid hfull (validateMouse_eq_none hparity htimeout haux)]
  rfl

/-- Settles O47: a transition zeroes the sums, and outside the strokes it is all that is written. -/
theorem transitionsZeroSums : Obligations.TransitionsZeroSums :=
  fun lb rb mb dx dy s => ⟨_, exec_gestStep lb rb mb dx dy s,
    gestureStep_zeroes_sums s.config _ dx dy, gestureStep_keeps_sums s.config _ dx dy⟩

/-- Settles O48: the cells of the two self-loops, where `wrap_N` changes nothing. -/
theorem strokeAccumulatesExactly : Obligations.StrokeAccumulatesExactly := by
  intro dx dy s hx hy hdx
  constructor
  · intro hg hdy
    rw [exec_gestStep_eq_table, gestureTable_strokeOne_left hg hdx hdy, wrapped_of_fits hx,
      wrapped_of_fits hy]
  · intro hg hdy
    rw [exec_gestStep_eq_table, gestureTable_strokeTwo_right hg hdx hdy, wrapped_of_fits hx,
      wrapped_of_fits hy]

end Sys2Proof.Safety
end

section
/-! PROOFS. What an operation does not depend on: `SUB`, IRQ apart (R33), and the status bits that
the block ignores (R90, R132). -/

namespace Sys2Proof.Safety

open Sys2Proof.Machine

/-- The state with another `SUB` and with other answers to the next status reads. -/
def withSubAndSamples (v : BitVec 2) (samples : List Byte) (s : State) : State :=
  { s with sub := v, statusIn := samples }

/-- Two status samples that the block does not tell apart: they agree in output-buffer-full and,
where it is set, in the three error bits (R90, R132). -/
def SampleAgrees (p : Config.Params) (a b : Byte) : Prop :=
  a.getLsbD p.stObf = b.getLsbD p.stObf ∧
    (a.getLsbD p.stObf = true →
      a.getLsbD p.stAux = b.getLsbD p.stAux ∧
      a.getLsbD p.stTimeout = b.getLsbD p.stTimeout ∧
      a.getLsbD p.stParity = b.getLsbD p.stParity)

theorem SampleAgrees.refl (p : Config.Params) (a : Byte) : SampleAgrees p a a :=
  ⟨rfl, fun _ => ⟨rfl, rfl, rfl⟩⟩

/-- `t` is `s` but for its `SUB`, which is `v`, and its status samples, which `Agree` with those of
`s`. -/
def SameButSamples (Agree : Byte → Byte → Prop) (v : BitVec 2) (s t : State) : Prop :=
  ∃ samples, List.Forall₂ Agree s.statusIn samples ∧ t = withSubAndSamples v samples s

section Unread

variable {p : Config.Params} {Agree : Byte → Byte → Prop} {v : BitVec 2} {samples : List Byte}
  {s t : State} {a b : Byte} {ch : Channel} {k : Nat}

/-! ## Below the drain -/

theorem kbdReassemble_withSubAndSamples (p : Config.Params) (b : Byte) (v : BitVec 2)
    (samples : List Byte) (s : State) :
    kbdReassemble p b (withSubAndSamples v samples s) =
      withSubAndSamples v samples (kbdReassemble p b s) := by
  simp only [kbdReassemble, apply_ite (withSubAndSamples v samples)]
  rfl

theorem gestureStep_withSubAndSamples (p : Config.Params) (btn : Buttons) (dx dy : Int)
    (v : BitVec 2) (samples : List Byte) (s : State) :
    gestureStep p btn dx dy (withSubAndSamples v samples s) =
      withSubAndSamples v samples (gestureStep p btn dx dy s) := by
  have hstate : (withSubAndSamples v samples s).gestState = s.gestState := rfl
  simp only [gestureStep, hstate]
  cases s.gestState with
  | idle =>
    simp only [apply_ite (withSubAndSamples v samples)]
    rfl
  | stroke1 =>
    simp only [stepStrokeOne, apply_ite (withSubAndSamples v samples)]
    rfl
  | apex =>
    simp only [stepApex, apply_ite (withSubAndSamples v samples)]
    rfl
  | stroke2 =>
    simp only [stepStrokeTwo, apply_ite (withSubAndSamples v samples)]
    rfl
  | complete => rfl

theorem packetComplete_withSubAndSamples (p : Config.Params) (v : BitVec 2) (samples : List Byte)
    (s : State) :
    packetComplete p (withSubAndSamples v samples s) =
      withSubAndSamples v samples (packetComplete p s) :=
  gestureStep_withSubAndSamples p (buttonsOf p s.mouseB0) s.mouseDX s.mouseDY v samples
    (emit (.packet s.mouseB0 s.mouseB1 s.mouseB2) s)

theorem mouseReassemble_withSubAndSamples (p : Config.Params) (b : Byte) (v : BitVec 2)
    (samples : List Byte) (s : State) :
    mouseReassemble p b (withSubAndSamples v samples s) =
      withSubAndSamples v samples (mouseReassemble p b s) := by
  have hslot : (withSubAndSamples v samples s).mouseSlot = s.mouseSlot := rfl
  simp only [mouseReassemble, hslot]
  cases s.mouseSlot with
  | slot0 =>
    simp only [apply_ite (withSubAndSamples v samples)]
    rfl
  | slot1 => rfl
  | slot2 => exact packetComplete_withSubAndSamples p v samples (captureByte2 p b s)

/-- An update that reads neither of the two, and no port, keeps the relation. -/
theorem SameButSamples.map {f : State → State}
    (hf : ∀ samples, f (withSubAndSamples v samples s) = withSubAndSamples v samples (f s))
    (hstatus : (f s).statusIn = s.statusIn) (h : SameButSamples Agree v s t) :
    SameButSamples Agree v (f s) (f t) := by
  obtain ⟨samples, hagree, rfl⟩ := h
  exact ⟨samples, by rwa [hstatus], hf samples⟩

theorem SameButSamples.kbdReassemble (h : SameButSamples Agree v s t) (b : Byte) :
    SameButSamples Agree v (kbdReassemble p b s) (kbdReassemble p b t) :=
  h.map (fun samples => kbdReassemble_withSubAndSamples p b v samples s)
    (samePorts_kbdReassemble p b s).1

theorem SameButSamples.mouseReassemble (h : SameButSamples Agree v s t) (b : Byte) :
    SameButSamples Agree v (mouseReassemble p b s) (mouseReassemble p b t) :=
  h.map (fun samples => mouseReassemble_withSubAndSamples p b v samples s)
    (samePorts_mouseReassemble p b s).1

theorem SameButSamples.gestureStep (h : SameButSamples Agree v s t) (btn : Buttons) (dx dy : Int) :
    SameButSamples Agree v (gestureStep p btn dx dy s) (gestureStep p btn dx dy t) :=
  h.map (fun samples => gestureStep_withSubAndSamples p btn dx dy v samples s)
    (samePorts_gestureStep p btn dx dy s).1

theorem SameButSamples.emit (h : SameButSamples Agree v s t) (r : Record) :
    SameButSamples Agree v (emit r s) (emit r t) :=
  h.map (f := Machine.emit r) (fun _ => rfl) rfl

theorem SameButSamples.config (h : SameButSamples Agree v s t) : t.config = s.config := by
  obtain ⟨samples, -, rfl⟩ := h
  rfl

/-! ## The drain -/

theorem validate_eq_of_sampleAgrees (h : SampleAgrees p a b) (hfull : a.getLsbD p.stObf = true)
    (ch : Channel) : validate p ch a = validate p ch b := by
  obtain ⟨haux, htimeout, hparity⟩ := h.2 hfull
  cases ch with
  | kbd => simp only [validate, validateKbd, haux, htimeout, hparity]
  | mouse => simp only [validate, validateMouse, haux, htimeout, hparity]

theorem forall₂_getD {l l' : List Byte} (h : List.Forall₂ Agree l l') {d : Byte}
    (hd : Agree d d) (i : Nat) : Agree (l[i]?.getD d) (l'[i]?.getD d) := by
  induction h generalizing i with
  | nil => exact hd
  | cons hab _ ih =>
    cases i with
    | zero => exact hab
    | succ i => exact ih i

section Drain

variable (hrefl : ∀ a, Agree a a) (hagree : ∀ a b, Agree a b → SampleAgrees p a b)
include hrefl hagree

/-- Past the listed samples both states get the same free answers (R74). -/
theorem statusAt_agrees (h : List.Forall₂ Agree s.statusIn samples) (i : Nat) :
    SampleAgrees p (statusAt p s i) (statusAt p (withSubAndSamples v samples s) i) :=
  hagree _ _ (forall₂_getD h (hrefl _) i)

/-- The drain ends at the same sample with the same result, and leaves samples that agree. -/
theorem drain_withSubAndSamples (h : List.Forall₂ Agree s.statusIn samples) (v : BitVec 2)
    (ch : Channel) : ∃ rest, List.Forall₂ Agree (drain p ch s).2.statusIn rest ∧
      drain p ch (withSubAndSamples v samples s) =
        ((drain p ch s).1, withSubAndSamples v rest (drain p ch s).2) := by
  have hat := statusAt_agrees (v := v) hrefl hagree h
  rcases firstFull_or_neverFull p s with ⟨k, hfull⟩ | hnever
  · obtain ⟨hk, hset, hclear⟩ := hfull
    have hfull' : firstFull p (withSubAndSamples v samples s) k :=
      ⟨hk, by rw [← (hat k).1, hset], fun i hi => by rw [← (hat i).1, hclear i hi]⟩
    rw [drain_of_firstFull ch ⟨hk, hset, hclear⟩, drain_of_firstFull ch hfull',
      ← validate_eq_of_sampleAgrees (hat k) hset ch]
    have hrest := List.forall₂_drop (k + 1) h
    cases ch <;> exact ⟨samples.drop (k + 1), hrest, rfl⟩
  · have hnever' : neverFull p (withSubAndSamples v samples s) :=
      fun i hi => by rw [← (hat i).1, hnever i hi]
    rw [drain_of_neverFull ch hnever, drain_of_neverFull ch hnever']
    exact ⟨samples.drop p.pollBudget, List.forall₂_drop p.pollBudget h, rfl⟩

theorem SameButSamples.drain (h : SameButSamples Agree v s t) (ch : Channel) :
    ∃ t', drain p ch t = ((drain p ch s).1, t') ∧ SameButSamples Agree v (drain p ch s).2 t' := by
  obtain ⟨samples, hsamples, rfl⟩ := h
  obtain ⟨rest, hrest, heq⟩ := drain_withSubAndSamples hrefl hagree hsamples v ch
  exact ⟨_, heq, rest, hrest, rfl⟩

/-! ## The handlers and IRQ -/

theorem SameButSamples.kbdHandler (h : SameButSamples Agree v s t) :
    SameButSamples Agree v (kbdHandler p s) (kbdHandler p t) := by
  obtain ⟨t', hdt, hsame⟩ := h.drain hrefl hagree .kbd
  rcases hds : Machine.drain p .kbd s with ⟨kind | d, s'⟩ <;> rw [hds] at hdt hsame <;>
    rw [kbdHandler_of_drain hds, kbdHandler_of_drain hdt]
  · exact hsame.emit _
  · exact hsame.kbdReassemble d

theorem SameButSamples.mouseHandler (h : SameButSamples Agree v s t) :
    SameButSamples Agree v (mouseHandler p s) (mouseHandler p t) := by
  obtain ⟨t', hdt, hsame⟩ := h.drain hrefl hagree .mouse
  rcases hds : Machine.drain p .mouse s with ⟨kind | d, s'⟩ <;> rw [hds] at hdt hsame <;>
    rw [mouseHandler_of_drain hds, mouseHandler_of_drain hdt]
  · exact hsame.emit _
  · exact hsame.mouseReassemble d

/-- IRQ reads `SUB`, so its two runs need the same one. -/
theorem SameButSamples.irqKbd (h : SameButSamples Agree s.sub s t) (m : Byte) :
    SameButSamples Agree s.sub (irqKbd p m s) (irqKbd p m t) := by
  have hsub : t.sub = s.sub := by
    obtain ⟨samples, -, rfl⟩ := h
    rfl
  rw [irqKbd_eq_ite, irqKbd_eq_ite, hsub]
  split
  · exact h.kbdHandler hrefl hagree
  · exact h

theorem SameButSamples.irqMouse (h : SameButSamples Agree s.sub s t) (m : Byte) :
    SameButSamples Agree s.sub (irqMouse p m s) (irqMouse p m t) := by
  have hsub : t.sub = s.sub := by
    obtain ⟨samples, -, rfl⟩ := h
    rfl
  rw [irqMouse_eq_ite, irqMouse_eq_ite, hsub]
  split
  · exact h.mouseHandler hrefl hagree
  · exact h

theorem SameButSamples.irqDispatch (h : SameButSamples Agree s.sub s t) (m : Byte) :
    SameButSamples Agree s.sub (irqDispatch p m s) (irqDispatch p m t) := by
  have hkbd := h.irqKbd hrefl hagree m
  rw [← irqKbd_sub p m s] at hkbd
  have hmouse := hkbd.irqMouse hrefl hagree m
  rwa [irqKbd_sub] at hmouse

end Drain

/-! ## The instructions -/

/-- SUB and UNSUB apart, two runs from states that differ only in `SUB` and in agreeing samples end
in two such states; for IRQ `SUB` must be the same. -/
theorem SameButSamples.exec {i : Instr} (h : SameButSamples Agree v s t) (hrefl : ∀ a, Agree a a)
    (hagree : ∀ a b, Agree a b → SampleAgrees s.config a b) (hirq : ∀ m, i = .irq m → v = s.sub)
    (hsub : ∀ ch, i ≠ .sub ch) (hunsub : ∀ ch, i ≠ .unsub ch) :
    ∃ s' t', exec i s = .next s' ∧ exec i t = .next t' ∧ SameButSamples Agree v s' t' := by
  have hconfig := h.config
  cases i with
  | nop => exact ⟨s, t, rfl, rfl, h⟩
  | sub ch => exact absurd rfl (hsub ch)
  | unsub ch => exact absurd rfl (hunsub ch)
  | irq m =>
    obtain rfl := hirq m rfl
    exact ⟨_, _, exec_irq m s, exec_irq m t, by
      rw [hconfig]; exact h.irqDispatch hrefl hagree m⟩
  | kbdInt =>
    exact ⟨_, _, exec_kbdInt s, exec_kbdInt t, by rw [hconfig]; exact h.kbdHandler hrefl hagree⟩
  | kbdReasm b =>
    exact ⟨_, _, exec_kbdReasm b s, exec_kbdReasm b t, by rw [hconfig]; exact h.kbdReassemble b⟩
  | mouseInt =>
    exact ⟨_, _, exec_mouseInt s, exec_mouseInt t, by
      rw [hconfig]; exact h.mouseHandler hrefl hagree⟩
  | mouseReasm b =>
    exact ⟨_, _, exec_mouseReasm b s, exec_mouseReasm b t, by
      rw [hconfig]; exact h.mouseReassemble b⟩
  | gestStep lb rb mb dx dy =>
    exact ⟨_, _, exec_gestStep lb rb mb dx dy s, exec_gestStep lb rb mb dx dy t, by
      rw [hconfig]; exact h.gestureStep ⟨lb, rb, mb⟩ dx dy⟩
  | gestReset =>
    exact ⟨_, _, exec_gestReset s, exec_gestReset t,
      h.map (f := transition .idle) (fun _ => rfl) rfl⟩
  | gestCfg xLen tol =>
    exact ⟨_, _, exec_gestCfg xLen tol s, exec_gestCfg xLen tol t, by
      rw [hconfig]; exact h.map (f := writeParams s.config xLen tol) (fun _ => rfl) rfl⟩

end Unread

/-! ## The statements -/

/-- Settles O19: with the same samples, `SUB` is all that two runs differ in. -/
theorem subReadOnlyByIrq : Obligations.SubReadOnlyByIrq := by
  constructor
  · intro i s t hexec hwrites
    by_contra hnot
    exact hwrites (exec_keeps_sub (fun ch hi => hnot ⟨ch, .inl hi⟩)
      (fun ch hi => hnot ⟨ch, .inr hi⟩) hexec)
  · intro i s t v hirq hsub hunsub hexec
    have hstart : SameButSamples Eq v s { s with sub := v } :=
      ⟨s.statusIn, List.forall₂_refl _, rfl⟩
    obtain ⟨s', t', hexec', hexecv, samples, hsamples, rfl⟩ :=
      hstart.exec (fun _ => rfl) (fun _ _ hab => hab ▸ .refl s.config _)
        (fun m hi => absurd hi (hirq m)) hsub hunsub
    obtain rfl : s' = t := Host.Outcome.next.inj (hexec'.symm.trans hexec)
    obtain rfl : s'.statusIn = samples := by rwa [List.forall₂_eq_eq_eq] at hsamples
    exact hexecv

/-- Settles O32: with the same `SUB`, the samples left over are all that two runs differ in. -/
theorem ignoredStatusBitsDoNotMatter : Obligations.IgnoredStatusBitsDoNotMatter := by
  intro i s answers hanswers
  by_cases hset : (∃ ch, i = .sub ch) ∨ ∃ ch, i = .unsub ch
  · rcases hset with ⟨ch, rfl⟩ | ⟨ch, rfl⟩
    · exact ⟨_, answers, exec_sub ch s, rfl⟩
    · exact ⟨_, answers, exec_unsub ch s, rfl⟩
  · obtain ⟨hsub, hunsub⟩ : (∀ ch, i ≠ .sub ch) ∧ ∀ ch, i ≠ .unsub ch := by simpa using hset
    have hstart : SameButSamples (SampleAgrees s.config) s.sub s { s with statusIn := answers } :=
      ⟨answers, hanswers, rfl⟩
    obtain ⟨t, t', hexec, hexec', rest, -, rfl⟩ :=
      hstart.exec (SampleAgrees.refl s.config) (fun _ _ hab => hab) (fun _ _ => rfl) hsub hunsub
    refine ⟨t, rest, hexec, ?_⟩
    rw [hexec', withSubAndSamples, ← exec_keeps_sub hsub hunsub hexec]

end Sys2Proof.Safety
end
